-- ==== Sys2Proof/Word.lean ====
section
/-! DEFINITION. The word types of the FIFO controller (rules R7, R64, R91, R192). A value that the spec
treats as bits is a bit vector; a value it treats as a natural number of no given width is a `Nat`. -/

namespace Sys2Proof

/-- One buffer slot, and the peripheral's data registers: `BYTE_W` = 8 bits (R7, R64). -/
abbrev Byte := BitVec 8

/-- A FIFO pointer: `PTR_W` = 4 bits, so always in 0..`CAP`-1 (R7, R21, R22). -/
abbrev Ptr := BitVec 4

/-- The operand field of a command word, `arg[31:0]`, `BAUD_W` = 32 bits (R91, R93). -/
abbrev Arg := BitVec 32

/-- The operation field of a command word, `cmd[34:32]` (R91). -/
abbrev OpField := BitVec 3

/-- A host command word, format `H` (R91). -/
abbrev CommandWord := BitVec 35

/-- The identity of an interrupt event, format `E` (R96). -/
abbrev EventBit := BitVec 1

/-- The response word, `RSP_W` = 16 bits, two's complement (R95). -/
abbrev Rsp := BitVec 16

/-- The divisor `D` of `BEGIN`, held in 36 bits (R192). -/
abbrev Divisor := BitVec 36

end Sys2Proof
end

