-- ==== Sys2Proof/Syntax.lean ====
section
/-! DEFINITION. The operations of the block (R90, R92, R96, R98): one constructor of `Instr` per row of
spec/opcode_table.json, and the two forms in which an operation reaches the block. -/

namespace Sys2Proof

/-- The seven host commands by name (R92); the type of the latch `h_op` (R51). -/
inductive HostOp where
  | begin | end_ | available | peek | read | write | flush
deriving DecidableEq, Repr

/-- One of the two FIFO instances (R2, R14). -/
inductive FifoId where
  | rx | tx
deriving DecidableEq, Repr

/-- The encoded operations. An operand that R93 says is ignored is not part of an instruction. -/
inductive Instr where
  /-- `BEGIN <baud>`, op 0: the baud rate is all of `arg[31:0]` (R93, R191). -/
  | begin (baud : Arg)
  /-- `END`, op 1 (R200). -/
  | end_
  /-- `AVAILABLE`, op 2 (R155). -/
  | available
  /-- `PEEK`, op 3 (R156). -/
  | peek
  /-- `READ`, op 4 (R157). -/
  | read
  /-- `WRITE <byte>`, op 5: the byte is `arg[7:0]` (R93, R171). -/
  | write (byte : Byte)
  /-- `FLUSH`, op 6 (R176). -/
  | flush
  /-- The unassigned encoding, op 7 (R98). -/
  | reserved7
  /-- The receive-complete event, ev 0 (R96, R151). -/
  | rxisr
  /-- The transmit-buffer-empty event, ev 1 (R96, R173). -/
  | txisr
deriving DecidableEq, Repr

/-- The bits that name an operation: a command word on the command port (R91), or an event (R96). -/
inductive Packet where
  | command (w : CommandWord)
  | event (ev : EventBit)
deriving DecidableEq, Repr

end Sys2Proof
end

