-- ==== Sys2Proof/Config.lean ====
section
/-! DEFINITION. The parameters of the block (R7, R56) and the free values the spec leaves open. A
constant with no body is a value that nothing in Lean can evaluate: a claim holds whatever it is. -/

namespace Sys2Proof

/-- One turn of the scheduler (R237): the agent that may take the next step and, for `PERIPH`, the step
it takes with the byte it delivers (R232). -/
inductive Turn where
  /-- `HOST`: its next micro-step, or the acceptance of the next command. -/
  | host
  /-- `RXH` (event 0) or `TXH` (event 1): its start, or its next micro-step. -/
  | handler (ev : EventBit)
  /-- `PERIPH` takes `PE_RX(b)`. -/
  | peRx (b : Byte)
  /-- `PERIPH` takes `PE_TXE`. -/
  | peTxe
deriving DecidableEq, Repr, Inhabited

namespace Config

/-- `CAP`: slots in each buffer (R7). -/
def cap : Nat := 16

/-- `OS_THRESHOLD`: the clock-to-baud ratio at and above which oversampling is selected (R7). -/
def osThreshold : Nat := 48

/-- `EMPTY_SENTINEL`: what `READ` and `PEEK` answer when there is no data, -1 (R7, R95). -/
def emptySentinel : Rsp := -1#16

/-- `SRC_CLK_HZ`: OPEN, a natural number below 2^32 (R7). -/
opaque srcClkHz : BitVec 32

/-- `ModOS`: OPEN, a total function of the whole of `D` (R193). -/
opaque modOS : Divisor → Nat

/-- `ModLF`: OPEN, a total function of `D[3:0]` (R194). -/
opaque modLF : BitVec 4 → Nat

/-- `VEC_RX`: OPEN (R7, R61, R96). -/
opaque vecRx : Nat

/-- `VEC_TX`: OPEN (R7, R61, R96). -/
opaque vecTx : Nat

/-- `IRQ_PRIORITY`: OPEN, unobservable (R7, R236): whether the handler of the first event may preempt the
handler of the second. No rule reads it, because a model admits every interleaving of the two handlers.
DESIGN CHOICE, safe: assumption log, entry 12. -/
opaque irqPriority : EventBit → EventBit → Bool

/-- What a buffer slot holds that nothing has written since reset: unspecified (R55, R57).
DESIGN CHOICE, safe: assumption log, entry 4. -/
opaque unwrittenSlot : FifoId → Nat → Byte

/-- The schedule and the draws of the environment, where no script fixes them (R56, R232, R237).
DESIGN CHOICE, safe: assumption log, entry 2. -/
opaque freeTurn : Nat → Turn

end Config
end Sys2Proof
end

