-- ==== Sys2Proof/Machine/State.lean ====
section
/-! DEFINITION. The state of the block (R20 to R57) as plain data, the reasons a step can stop, and the
state after reset (R55, R260). -/

namespace Sys2Proof.Machine

/-- The bytes written to one buffer since reset, by slot index: addresses strictly rising. A slot that
is not listed holds the free value `Config.unwrittenSlot` (R55, R57). -/
abbrev Memory := List Host.Cell

/-- A FIFO instance (R21): the byte array and the two pointers. -/
structure Fifo where
  buf  : Memory
  head : Ptr
  tail : Ptr
deriving DecidableEq, Repr

/-- `h_phase`: `IDLE` or the label of the next micro-step of the command in progress (R51). -/
inductive HPhase where
  | idle
  | b1 | b2 | b3 | b4 | b5
  | e1 | e2 | e3
  | a1
  | k1 | k2
  | d1 | d2 | d3
  | w1 | w2 | w3 | w4
  | f1
deriving DecidableEq, Repr

/-- `r_phase` (R53). -/
inductive RPhase where
  | idle | x1 | x2 | x3 | x4
deriving DecidableEq, Repr

/-- `t_phase` (R53). -/
inductive TPhase where
  | idle | y1 | y2 | y3 | y4 | y5
deriving DecidableEq, Repr

/-- The line configuration as the natural numbers and the flag that `B1` computes (R48, R191). -/
structure LineConfig where
  d   : Divisor
  div : Nat
  mod : Nat
  os  : Bool
deriving DecidableEq, Repr

/-- The `HOST` sequencer (R51). -/
structure HostSeq where
  phase : HPhase
  /-- `h_op`: the command in progress. -/
  op    : HostOp
  /-- `h_arg`: its operand, latched at issue. -/
  arg   : Arg
  /-- `h_nxt`: the candidate next `head` in `WRITE`. -/
  nxt   : Ptr
  /-- `h_ptr`: the `rx.head` value read by `END`. -/
  ptr   : Ptr
  /-- `h_byte`: the byte read by `PEEK` or `READ`. -/
  byte  : Byte
  /-- `h_D`, `h_div`, `h_mod`, `h_os`: the line configuration computed by `BEGIN`. -/
  line  : LineConfig
deriving DecidableEq, Repr

/-- The `RXH` sequencer (R53). -/
structure RxSeq where
  phase : RPhase
  byte  : Byte
  nxt   : Ptr
deriving DecidableEq, Repr

/-- The `TXH` sequencer (R53). -/
structure TxSeq where
  phase : TPhase
  byte  : Byte
deriving DecidableEq, Repr

/-- The peripheral's registers that the block reads or writes (R40). `BRDIV` and `MOD` are natural
numbers: their widths are not given (R46). -/
structure Periph where
  rxbuf : Byte
  rxifg : Bool
  txbuf : Byte
  txifg : Bool
  swrst : Bool
  brdiv : Nat
  mod   : Nat
  os16  : Bool
deriving DecidableEq, Repr

/-- The tag of an entry of `RXLOG` (R50). `pending` stands between the read of `RXBUF` at `X1` and the
end of the invocation. -/
inductive RxFate where
  | pending | accepted | dropped
deriving DecidableEq, Repr

/-- An entry of `RXLOG` (R50). -/
structure RxEntry where
  byte : Byte
  fate : RxFate
deriving DecidableEq, Repr

/-- The observation traces (R50): ghost values, which no rule of the hardware reads. -/
structure Ghost where
  txLog  : List Byte
  rxLog  : List RxEntry
  rxDrop : Nat
deriving DecidableEq, Repr

/-- The end of one host command: which command, and its response word; none for a void command (R95). -/
structure Reply where
  op   : HostOp
  word : Option Rsp
deriving DecidableEq, Repr

/-- The whole machine. -/
structure State where
  /-- The receive buffer (R21). -/
  rx : Fifo
  /-- The transmit buffer (R21). -/
  tx : Fifo
  /-- `RXIE` (R31). -/
  rxie : Bool
  /-- `TXIE` (R32). -/
  txie : Bool
  /-- The peripheral-side registers (R40). -/
  periph : Periph
  /-- The `HOST` sequencer (R51). -/
  host : HostSeq
  /-- The `RXH` sequencer (R53). -/
  rxh : RxSeq
  /-- The `TXH` sequencer (R53). -/
  txh : TxSeq
  /-- The observation traces (R50). -/
  ghost : Ghost
  /-- The responses in order (R272). -/
  replies : List Reply
  /-- The command words that the host has yet to present, in order (R94). -/
  program : List CommandWord
  /-- The scripted turns of the scheduler and of the environment, the next one first (R232, R237). -/
  schedule : List Turn
  /-- The model's own counter of free turns: which free turn comes next when no script is left. -/
  draws : Nat
deriving DecidableEq, Repr

/-- The faults of the machine: there are none. "There is no synchronous exception, no trap, no fault and
no abort" (R220), and no access can be out of range (R63, R67). -/
inductive Fault where
deriving DecidableEq, Repr

/-- Why a command has no meaning. -/
inductive Refusal where
  /-- Raised by an arm of `exec` for an instruction that has no meaning yet; no arm does. Safe. -/
  | notModelled (mnemonic : String)
  /-- Raised by `RESERVED7`: "A model must `refuse` it" (R98). Safe: the hardware goes on. -/
  | reservedOperation
  /-- Raised by `BEGIN` at `B1` with `baud = 0`: the division has no result (R197 (b)). Safe. -/
  | divisionByZero
  /-- Raised by `BEGIN` when it is issued with outbound traffic in flight (R197 (a)). Safe: the hardware
  goes on. -/
  | trafficInFlight
deriving DecidableEq, Repr

/-- An empty buffer at index 0 (R55; the index is decision D11). -/
def Fifo.reset : Fifo := { buf := [], head := 0, tail := 0 }

/-- The state right after reset (R55, R260, R261). Latches and the peripheral's other registers are
unspecified there; the zeros are the model's choice. DESIGN CHOICE, unsafe: assumption log, entries 5 and 6. -/
def State.reset : State :=
  { rx := Fifo.reset
    tx := Fifo.reset
    rxie := false
    txie := false
    periph := { rxbuf := 0, rxifg := false, txbuf := 0, txifg := false,
                swrst := false, brdiv := 0, mod := 0, os16 := false }
    host := { phase := .idle, op := .begin, arg := 0, nxt := 0, ptr := 0, byte := 0,
              line := { d := 0, div := 0, mod := 0, os := false } }
    rxh := { phase := .idle, byte := 0, nxt := 0 }
    txh := { phase := .idle, byte := 0 }
    ghost := { txLog := [], rxLog := [], rxDrop := 0 }
    replies := []
    program := []
    schedule := []
    draws := 0 }

/-- What a micro-step answers. -/
abbrev Result := Host.Outcome State Fault Refusal

end Sys2Proof.Machine
end

