-- ==== Sys2Proof/Machine/Flags.lean ====
section
/-! DEFINITION. Pointer arithmetic (R121) and the flags of a FIFO (R24, R25, R26), which are
combinational functions of the two pointers, and the two event conditions (R230, R231). -/

namespace Sys2Proof.Machine

/-- `inc(p) = (p + 1) mod CAP`, by masking: `(p + 1)[3:0]` (R7, R121). -/
def inc (p : Ptr) : Ptr := p + 1#4

/-- `dist(h, t) = (CAP + h - t) mod CAP` (R121). -/
def ptrDist (h t : Ptr) : Nat := (Config.cap + h.toNat - t.toNat) % Config.cap

/-- `f.empty` (R24). -/
def Fifo.empty (f : Fifo) : Bool := f.head == f.tail

/-- `f.full` (R25). -/
def Fifo.full (f : Fifo) : Bool := inc f.head == f.tail

/-- `f.count` (R26). -/
def Fifo.count (f : Fifo) : Nat := ptrDist f.head f.tail

/-- A handler is active: its phase is not `IDLE` (R53). -/
def State.handlerActive (s : State) : Bool := s.rxh.phase != .idle || s.txh.phase != .idle

/-- The start condition of `RXISR` (R96, R231). -/
def State.rxEvent (s : State) : Bool := s.periph.rxifg && s.rxie && s.rxh.phase == .idle

/-- The start condition of `TXISR` (R96, R231). -/
def State.txEvent (s : State) : Bool := s.periph.txifg && s.txie && s.txh.phase == .idle

/-- *Outbound traffic in flight*: `tx.count > 0 or TXIE = 1` (R197 (a)). -/
def State.trafficInFlight (s : State) : Bool := s.tx.count != 0 || s.txie

end Sys2Proof.Machine
end

