-- ==== Sys2Proof/Decode.lean ====
section
/-! DEFINITION. The decoder, and after it the encoder, from the encoding tables of 30_encoding.md
(R91, R92, R93, R96, R98). Decoding is total on command words and event bits; bits that are neither are
rejected by name. -/

namespace Sys2Proof

/-- Why some bits are no operation of the block. -/
inductive DecodeError where
  /-- A command word has 35 bits (R91); a bit above bit 34 is set. -/
  | commandTooWide
  /-- An event has one bit (R96); a bit above bit 0 is set. -/
  | eventTooWide
deriving DecidableEq, Repr

/-- Field `op`, bits 34:32 (R91). -/
def opField (w : CommandWord) : OpField := w.extractLsb' 32 3

/-- Field `arg`, bits 31:0 (R91). -/
def argField (w : CommandWord) : Arg := w.extractLsb' 0 32

/-- Operand assembly of `WRITE`: the byte is `arg[7:0]`; `arg[31:8]` is ignored (R93). -/
def byteOfArg (arg : Arg) : Byte := arg.extractLsb' 0 8

/-- Operation numbers of R92. -/
def decodeCommand (w : CommandWord) : Instr :=
  match (opField w).toNat with
  | 0 => .begin (argField w)
  | 1 => .end_
  | 2 => .available
  | 3 => .peek
  | 4 => .read
  | 5 => .write (byteOfArg (argField w))
  | 6 => .flush
  | _ => .reserved7

/-- Event identities of R96. -/
def decodeEvent (ev : EventBit) : Instr := if ev = 0#1 then .rxisr else .txisr

/-- The operation that a packet names. -/
def decode : Packet → Instr
  | .command w => decodeCommand w
  | .event ev => decodeEvent ev

/-- The bits `w` of a table row of `nbits` bits (in whole bytes: 40 for format `H`, 8 for format `E`) as
a packet, or the reason they are none. -/
def packetOfBits (nbits w : Nat) : Except DecodeError Packet :=
  if nbits < 35 then
    if w < 2 ^ 1 then .ok (.event (BitVec.ofNat 1 w)) else .error .eventTooWide
  else
    if w < 2 ^ 35 then .ok (.command (BitVec.ofNat 35 w)) else .error .commandTooWide

/-- The decoder on bits numbered as spec/opcode_table.json numbers them. -/
def decodeTableWord (nbits w : Nat) : Option Instr :=
  match packetOfBits nbits w with
  | .ok p => some (decode p)
  | .error _ => none

/-- The operand field that carries a byte operand: zeros above (R93; the bits are ignored). -/
def argOfByte (b : Byte) : Arg := b.setWidth 32

/-- A command word from its two fields (R91). -/
def commandWord (op : OpField) (arg : Arg) : CommandWord := op ++ arg

/-- The words of an instruction; an ignored operand field is sent as zeros. -/
def encode : Instr → Packet
  | .begin baud => .command (commandWord 0#3 baud)
  | .end_ => .command (commandWord 1#3 0#32)
  | .available => .command (commandWord 2#3 0#32)
  | .peek => .command (commandWord 3#3 0#32)
  | .read => .command (commandWord 4#3 0#32)
  | .write b => .command (commandWord 5#3 (argOfByte b))
  | .flush => .command (commandWord 6#3 0#32)
  | .reserved7 => .command (commandWord 7#3 0#32)
  | .rxisr => .event 0#1
  | .txisr => .event 1#1

end Sys2Proof
end

