-- ==== Sys2Proof/Machine/Operands.lean ====
section
/-! DEFINITION. Operands (R93), response words (R95) and the arithmetic of the line configuration
(R191 to R194). -/

namespace Sys2Proof.Machine

/-- The response word of a count: `zext_16` (R95). -/
def rspOfCount (n : Nat) : Rsp := BitVec.ofNat 16 n

/-- The response word of a byte: `zext_16`, "the byte as an unsigned value" (R95). -/
def rspOfByte (b : Byte) : Rsp := b.setWidth 16

/-- The response of `WRITE`: one byte accepted (R95). -/
def rspOne : Rsp := 1#16

/-- What the response port carries: a void command drives zeros, which carry no information (R95). -/
def Reply.driven (r : Reply) : Rsp := r.word.getD 0#16

/-- The command that `h_op` and `h_arg` hold (R51). -/
def instrOf (op : HostOp) (arg : Arg) : Instr :=
  match op with
  | .begin => .begin arg
  | .end_ => .end_
  | .available => .available
  | .peek => .peek
  | .read => .read
  | .write => .write (byteOfArg arg)
  | .flush => .flush

/-- `ratio = SRC_CLK_HZ / baud`, floor division (R191, R192). -/
def lineRatio (clk baud : Nat) : Nat := clk / baud

/-- `D = (SRC_CLK_HZ << 4) / baud`, floor division, in 36 bits (R191, R192).
DEDUCED, unsafe: assumption log, entry 17. -/
def lineDivisor (clk baud : Nat) : Divisor := BitVec.ofNat 36 (clk * 2 ^ 4 / baud)

/-- What `B1` computes for a non-zero baud rate: oversampling when `ratio >= 48` (R191, R193, R194). -/
def lineConfig (clk baud : Nat) : LineConfig :=
  if lineRatio clk baud ≥ Config.osThreshold then
    { d := lineDivisor clk baud
      div := (lineDivisor clk baud).toNat / 2 ^ 8
      mod := Config.modOS (lineDivisor clk baud)
      os := true }
  else
    { d := lineDivisor clk baud
      div := (lineDivisor clk baud).toNat / 2 ^ 4
      mod := Config.modLF ((lineDivisor clk baud).extractLsb' 0 4)
      os := false }

end Sys2Proof.Machine
end

