-- ==== Sys2Proof/Machine/Ops.lean ====
section
/-! DEFINITION. The operations that the meanings are made of: access to the buffers, to the pointers and
to the peripheral's registers (R11), the micro-steps of the five buffer primitives (R122 to R128), issue
and response of a host command (R94, R95), entry and end of a handler (R238, R239), and the steps of the
environment (R232). -/

namespace Sys2Proof.Machine

/-! ## The byte arrays -/

/-- The byte at an address, if one has been written. -/
def Memory.lookup : Memory → Nat → Option Byte
  | [], _ => none
  | (k, v) :: m, a => if k = a then some v else Memory.lookup m a

/-- Write one byte and keep the addresses rising. -/
def Memory.write : Memory → Nat → Byte → Memory
  | [], a, b => [(a, b)]
  | (k, v) :: m, a, b =>
    if a < k then (a, b) :: (k, v) :: m
    else if a = k then (a, b) :: m
    else (k, v) :: Memory.write m a b

/-- Every address is at least `lo`, below `CAP`, and above the one before it. -/
def Memory.wfFrom : Nat → Memory → Bool
  | _, [] => true
  | lo, (k, _) :: m => decide (lo ≤ k) && decide (k < Config.cap) && Memory.wfFrom (k + 1) m

/-- The canonical form: addresses strictly rising and all of them slots of the buffer. -/
def Memory.wf (m : Memory) : Bool := Memory.wfFrom 0 m

/-! ## The shared registers -/

/-- The instance that a name stands for. -/
def State.fifo (f : FifoId) (s : State) : Fifo :=
  match f with
  | .rx => s.rx
  | .tx => s.tx

/-- The state with one instance replaced. -/
def State.setFifo (f : FifoId) (v : Fifo) (s : State) : State :=
  match f with
  | .rx => { s with rx := v }
  | .tx => { s with tx := v }

/-- `MemRead(f, i, 1)` (R11): the last byte written to the slot, or the unspecified byte that it holds
since reset (R55). -/
def memRead (f : FifoId) (i : Ptr) (s : State) : Byte :=
  ((s.fifo f).buf.lookup i.toNat).getD (Config.unwrittenSlot f i.toNat)

/-- `MemWrite(f, i, 1, v)` (R11). -/
def memWrite (f : FifoId) (i : Ptr) (v : Byte) (s : State) : State :=
  s.setFifo f { s.fifo f with buf := (s.fifo f).buf.write i.toNat v }

/-- `f.head <- v` (R11): one indivisible write (R65). -/
def setHead (f : FifoId) (v : Ptr) (s : State) : State :=
  s.setFifo f { s.fifo f with head := v }

/-- `f.tail <- v` (R11): one indivisible write (R65). -/
def setTail (f : FifoId) (v : Ptr) (s : State) : State :=
  s.setFifo f { s.fifo f with tail := v }

/-- `TXIE <- b` (R32). -/
def setTxie (b : Bool) (s : State) : State := { s with txie := b }

/-- `RXIE <- b` (R31). -/
def setRxie (b : Bool) (s : State) : State := { s with rxie := b }

/-! ## The peripheral's registers -/

/-- The side effects of `PeriphRead(RXBUF)`, whose value is `s.periph.rxbuf`: `RXIFG <- 0` (R41). -/
def periphReadAck (s : State) : State := { s with periph := { s.periph with rxifg := false } }

/-- `PeriphWrite(TXBUF, v)`: `TXBUF <- v`, `TXIFG <- 0`, and `TXLOG` gets `v` (R43). -/
def periphWrite (v : Byte) (s : State) : State :=
  { s with
    periph := { s.periph with txbuf := v, txifg := false }
    ghost := { s.ghost with txLog := s.ghost.txLog ++ [v] } }

/-- `SWRST <- b` (R45). -/
def setSwrst (b : Bool) (s : State) : State := { s with periph := { s.periph with swrst := b } }

/-- `BRDIV <- div; MOD <- mod; OS16 <- os` (R46, R191). -/
def programLine (c : LineConfig) (s : State) : State :=
  { s with periph := { s.periph with brdiv := c.div, mod := c.mod, os16 := c.os } }

/-- `PE_RX(b)`: no guard; an unread byte is overwritten (R232). -/
def peRx (b : Byte) (s : State) : State :=
  { s with periph := { s.periph with rxbuf := b, rxifg := true } }

/-- `PE_TXE`: guard `TXIFG = 0` (R232). Where the guard fails the turn changes nothing. -/
def peTxe (s : State) : State :=
  if s.periph.txifg then s else { s with periph := { s.periph with txifg := true } }

/-! ## The sequencers -/

/-- `phase <- L` of the `HOST` sequencer (R52). -/
def hostGoto (p : HPhase) (s : State) : State := { s with host := { s.host with phase := p } }

/-- `phase <- L` of the `RXH` sequencer (R52). -/
def rxhGoto (p : RPhase) (s : State) : State := { s with rxh := { s.rxh with phase := p } }

/-- `phase <- L` of the `TXH` sequencer (R52). -/
def txhGoto (p : TPhase) (s : State) : State := { s with txh := { s.txh with phase := p } }

/-- The latch `h_nxt` (R51). -/
def latchNxt (v : Ptr) (s : State) : State := { s with host := { s.host with nxt := v } }

/-- The latch `h_ptr` (R51). -/
def latchPtr (v : Ptr) (s : State) : State := { s with host := { s.host with ptr := v } }

/-- The latch `h_byte` (R51). -/
def latchByte (v : Byte) (s : State) : State := { s with host := { s.host with byte := v } }

/-- The latches `h_D`, `h_div`, `h_mod`, `h_os` (R51). -/
def latchLine (c : LineConfig) (s : State) : State := { s with host := { s.host with line := c } }

/-- The latch `r_byte` (R53). -/
def rxhLatchByte (v : Byte) (s : State) : State := { s with rxh := { s.rxh with byte := v } }

/-- The latch `r_nxt` (R53). -/
def rxhLatchNxt (v : Ptr) (s : State) : State := { s with rxh := { s.rxh with nxt := v } }

/-- The latch `t_byte` (R53). -/
def txhLatchByte (v : Byte) (s : State) : State := { s with txh := { s.txh with byte := v } }

/-- Issue: an idle `HOST` accepts a command, which sets `h_op`, `h_arg` and `h_phase` (R94). -/
def accept (op : HostOp) (arg : Arg) (first : HPhase) (s : State) : State :=
  { s with host := { s.host with op := op, arg := arg, phase := first } }

/-- `respond(v)`, or `respond()` with no word: the command ends and `HOST` returns to idle (R11, R95). -/
def respond (word : Option Rsp) (s : State) : State :=
  { s with
    host := { s.host with phase := .idle }
    replies := s.replies ++ [{ op := s.host.op, word := word }] }

/-- `HOST` takes a micro-step only when no handler is active (R233); while one is, it waits. -/
def unlessPreempted (s : State) (microStep : Result) : Result :=
  if s.handlerActive then .next s else microStep

/-- Handler entry (R231, R238): an idle handler whose event is pending goes to its first label and
nothing else changes; without the event it does not start. -/
def enterRxh (s : State) : State := if s.rxEvent then rxhGoto .x1 s else s

/-- Handler entry of `TXH` (R231, R238). -/
def enterTxh (s : State) : State := if s.txEvent then txhGoto .y1 s else s

/-- `done` of `RXH` (R239): nothing is restored, no enable is re-armed. -/
def doneRxh (s : State) : State := rxhGoto .idle s

/-- `done` of `TXH` (R239). -/
def doneTxh (s : State) : State := txhGoto .idle s

/-- The vector identity at which the platform reaches a handler (R61, R96, R238). -/
def vectorOf (ev : EventBit) : Nat := if ev = 0#1 then Config.vecRx else Config.vecTx

/-! ## The observation traces -/

/-- Give the last entry of `RXLOG` its tag (R50). -/
def settleLast (fate : RxFate) : List RxEntry → List RxEntry
  | [] => []
  | [e] => [{ e with fate := fate }]
  | e :: es => e :: settleLast fate es

/-- `RXLOG` gets the byte read at `X1` (R50, R151). -/
def logArrival (b : Byte) (s : State) : State :=
  { s with ghost := { s.ghost with rxLog := s.ghost.rxLog ++ [{ byte := b, fate := .pending }] } }

/-- The byte read last is dropped: `RXDROP <- RXDROP + 1` (R50, R151). -/
def logDrop (s : State) : State :=
  { s with ghost := { s.ghost with
      rxLog := settleLast .dropped s.ghost.rxLog
      rxDrop := s.ghost.rxDrop + 1 } }

/-- The byte read last is accepted (R50). -/
def logAccept (s : State) : State :=
  { s with ghost := { s.ghost with rxLog := settleLast .accepted s.ghost.rxLog } }

/-! ## The micro-steps of the buffer primitives -/

/-- `P1`: the candidate next `head` (R122). -/
def pushNext (f : FifoId) (s : State) : Ptr := inc (s.fifo f).head

/-- `P1`: the push is rejected, because the buffer is full (R122). -/
def pushRejected (f : FifoId) (s : State) : Bool := (s.fifo f).full

/-- The slot that `P2` writes: the one the producer's own pointer names (R129). -/
def pushSlot (f : FifoId) (s : State) : Ptr := (s.fifo f).head

/-- `P2`: store (R122). -/
def pushStore (f : FifoId) (b : Byte) (s : State) : State := memWrite f (pushSlot f s) b s

/-- `P3`: publish (R122). -/
def pushPublish (f : FifoId) (nxt : Ptr) (s : State) : State := setHead f nxt s

/-- `Q1`: the buffer is empty (R124, R126). -/
def popNone (f : FifoId) (s : State) : Bool := (s.fifo f).empty

/-- The slot that `Q2` reads: the one the consumer's own pointer names (R129). -/
def popSlot (f : FifoId) (s : State) : Ptr := (s.fifo f).tail

/-- `Q2`: the byte read (R124, R126). -/
def popByte (f : FifoId) (s : State) : Byte := memRead f (popSlot f s) s

/-- `Q3`: publish (R124). -/
def popPublish (f : FifoId) (s : State) : State := setTail f (inc (s.fifo f).tail) s

/-- `C1`: the count (R127). -/
def countOf (f : FifoId) (s : State) : Nat := (s.fifo f).count

/-- `L1`: the value sampled from the producer's pointer (R128). -/
def clearSample (f : FifoId) (s : State) : Ptr := (s.fifo f).head

/-- `L2`: publish the sampled pointer (R128). -/
def clearPublish (f : FifoId) (p : Ptr) (s : State) : State := setTail f p s

/-! ## The buffer primitives run without interruption -/

/-- `PUSH(f, b)`, the document's `tryPush`: the state after it, and whether the byte was accepted (R122). -/
def tryPush (f : FifoId) (b : Byte) (s : State) : State × Bool :=
  if pushRejected f s then (s, false)
  else (pushPublish f (pushNext f s) (pushStore f b s), true)

/-- `POP(f)`, the document's `tryPop`: the state after it, and the byte (R124). -/
def tryPop (f : FifoId) (s : State) : State × Option Byte :=
  if popNone f s then (s, none) else (popPublish f s, some (popByte f s))

/-- `PEEKQ(f)`, the document's buffer `peek` (R126). -/
def peekQ (f : FifoId) (s : State) : Option Byte :=
  if popNone f s then none else some (popByte f s)

/-- `CLEAR(f)` (R128). -/
def clear (f : FifoId) (s : State) : State := clearPublish f (clearSample f s) s

/-- The bytes in the live slots, oldest first: slots `tail`, `tail + 1`, ..., `count` of them (R57). -/
def live (f : FifoId) (s : State) : List Byte :=
  (List.range (countOf f s)).map
    fun k => memRead f ((s.fifo f).tail + BitVec.ofNat 4 k) s

end Sys2Proof.Machine
end

