-- ==== Sys2Proof/Machine/Line.lean ====
section
/-! DEFINITION. Line configuration and lifecycle (43_line_config.md): `BEGIN`, `END`; and the unassigned
operation number (R98). One micro-step each, as in Receive.lean. -/

namespace Sys2Proof.Machine

/-- `BEGIN` (R191): issue, then `B1` to `B5`. Issued with outbound traffic in flight it has no meaning
(R197 (a)), and with `baud = 0` the division at `B1` has no result (R197 (b)).
DEDUCED, safe: assumption log, entry 10. -/
def execBegin (baud : Arg) (s : State) : Result :=
  unlessPreempted s <|
    match s.host.phase with
    | .idle => if s.trafficInFlight then .refused .trafficInFlight else .next (accept .begin baud .b1 s)
    | .b1 =>
      if s.host.arg = 0 then .refused .divisionByZero
      else .next (hostGoto .b2 (latchLine (lineConfig Config.srcClkHz.toNat s.host.arg.toNat) s))
    | .b2 => .next (hostGoto .b3 (setSwrst true s))
    | .b3 => .next (hostGoto .b4 (programLine s.host.line s))
    | .b4 => .next (hostGoto .b5 (setSwrst false s))
    | .b5 => .next (respond none (setRxie true s))
    | _ => .next s

/-- `END` (R200): issue, then `E1` (repeated while `tx` is not empty), `E2`, `E3`. -/
def execEnd (s : State) : Result :=
  unlessPreempted s <|
    match s.host.phase with
    | .idle => .next (accept .end_ 0 .e1 s)
    | .e1 => if countOf .tx s = 0 then .next (hostGoto .e2 s) else .next s
    | .e2 => .next (hostGoto .e3 (latchPtr (clearSample .rx s) s))
    | .e3 => .next (respond none (clearPublish .rx s.host.ptr s))
    | _ => .next s

/-- Operation number 7: "A model must `refuse` it" (R98). DEDUCED, safe: assumption log, entry 9. -/
def execReserved7 (_ : State) : Result := .refused .reservedOperation

end Sys2Proof.Machine
end

