-- ==== Sys2Proof/Machine/Receive.lean ====
section
/-! DEFINITION. The receive path (41_receive_path.md): `RXISR`, `AVAILABLE`, `PEEK`, `READ`. A meaning
takes ONE micro-step of its operation: the one its sequencer's phase names. In a phase that belongs to
another operation the sequencer is busy, and the meaning waits. -/

namespace Sys2Proof.Machine

/-- `RXISR` (R151): entry, then `X1` to `X4`. -/
def execRxisr (s : State) : Result :=
  match s.rxh.phase with
  | .idle => .next (enterRxh s)
  | .x1 =>
    .next (rxhGoto .x2 (logArrival s.periph.rxbuf (rxhLatchByte s.periph.rxbuf (periphReadAck s))))
  | .x2 =>
    if pushRejected .rx s then .next (doneRxh (logDrop (rxhLatchNxt (pushNext .rx s) s)))
    else .next (rxhGoto .x3 (rxhLatchNxt (pushNext .rx s) s))
  | .x3 => .next (rxhGoto .x4 (pushStore .rx s.rxh.byte s))
  | .x4 => .next (doneRxh (logAccept (pushPublish .rx s.rxh.nxt s)))

/-- `AVAILABLE` (R155): issue, then `A1`. -/
def execAvailable (s : State) : Result :=
  unlessPreempted s <|
    match s.host.phase with
    | .idle => .next (accept .available 0 .a1 s)
    | .a1 => .next (respond (some (rspOfCount (countOf .rx s))) s)
    | _ => .next s

/-- `PEEK` (R156): issue, then `K1`, `K2`. -/
def execPeek (s : State) : Result :=
  unlessPreempted s <|
    match s.host.phase with
    | .idle => .next (accept .peek 0 .k1 s)
    | .k1 =>
      if popNone .rx s then .next (respond (some Config.emptySentinel) s)
      else .next (hostGoto .k2 s)
    | .k2 => .next (respond (some (rspOfByte (popByte .rx s))) (latchByte (popByte .rx s) s))
    | _ => .next s

/-- `READ` (R157): issue, then `D1`, `D2`, `D3`. -/
def execRead (s : State) : Result :=
  unlessPreempted s <|
    match s.host.phase with
    | .idle => .next (accept .read 0 .d1 s)
    | .d1 =>
      if popNone .rx s then .next (respond (some Config.emptySentinel) s)
      else .next (hostGoto .d2 s)
    | .d2 => .next (hostGoto .d3 (latchByte (popByte .rx s) s))
    | .d3 => .next (respond (some (rspOfByte s.host.byte)) (popPublish .rx s))
    | _ => .next s

end Sys2Proof.Machine
end

