-- ==== Sys2Proof/Machine/Transmit.lean ====
section
/-! DEFINITION. The transmit path (42_transmit_path.md): `WRITE`, `TXISR`, `FLUSH`. One micro-step each,
as in Receive.lean. -/

namespace Sys2Proof.Machine

/-- `WRITE` (R171): issue, then `W1` (repeated while `tx` is full) to `W4`. -/
def execWrite (b : Byte) (s : State) : Result :=
  unlessPreempted s <|
    match s.host.phase with
    | .idle => .next (accept .write (argOfByte b) .w1 s)
    | .w1 =>
      if pushRejected .tx s then .next (latchNxt (pushNext .tx s) s)
      else .next (hostGoto .w2 (latchNxt (pushNext .tx s) s))
    | .w2 => .next (hostGoto .w3 (pushStore .tx (byteOfArg s.host.arg) s))
    | .w3 => .next (hostGoto .w4 (pushPublish .tx s.host.nxt s))
    | .w4 => .next (respond (some rspOne) (setTxie true s))
    | _ => .next s

/-- `TXISR` (R173): entry, then `Y1` to `Y4`, or `Y1`, `Y5` when `tx` is empty. -/
def execTxisr (s : State) : Result :=
  match s.txh.phase with
  | .idle => .next (enterTxh s)
  | .y1 => if popNone .tx s then .next (txhGoto .y5 s) else .next (txhGoto .y2 s)
  | .y2 => .next (txhGoto .y3 (txhLatchByte (popByte .tx s) s))
  | .y3 => .next (txhGoto .y4 (popPublish .tx s))
  | .y4 => .next (doneTxh (periphWrite s.txh.byte s))
  | .y5 => .next (doneTxh (setTxie false s))

/-- `FLUSH` (R176): issue, then `F1`, repeated while `tx` is not empty. -/
def execFlush (s : State) : Result :=
  unlessPreempted s <|
    match s.host.phase with
    | .idle => .next (accept .flush 0 .f1 s)
    | .f1 => if countOf .tx s = 0 then .next (respond none s) else .next s
    | _ => .next s

end Sys2Proof.Machine
end

