-- ==== Sys2Proof/Machine/Dispatch.lean ====
section
/-! DEFINITION. The meaning of every operation, one arm each: ONE micro-step of it (R11, R52). -/

namespace Sys2Proof.Machine

def exec (i : Instr) (s : State) : Host.Outcome State Fault Refusal :=
  match i with
  | .begin baud => Sys2Proof.Machine.execBegin baud s
  | .end_ => Sys2Proof.Machine.execEnd s
  | .available => Sys2Proof.Machine.execAvailable s
  | .peek => Sys2Proof.Machine.execPeek s
  | .read => Sys2Proof.Machine.execRead s
  | .write byte => Sys2Proof.Machine.execWrite byte s
  | .flush => Sys2Proof.Machine.execFlush s
  | .reserved7 => Sys2Proof.Machine.execReserved7 s
  | .rxisr => Sys2Proof.Machine.execRxisr s
  | .txisr => Sys2Proof.Machine.execTxisr s

end Sys2Proof.Machine
end

