-- ==== Sys2Proof/Machine/Schedule.lean ====
section
/-! DEFINITION. Who takes the next step (R237), and what it is: the scheduler, the presentation of
command words (R94), and how a packet is put where the next step takes it up. -/

namespace Sys2Proof.Machine

/-- The next turn, from the script, or a free one where no script is left; and the state without it. -/
def State.nextTurn (s : State) : Turn × State :=
  match s.schedule with
  | t :: ts => (t, { s with schedule := ts })
  | [] => (Config.freeTurn s.draws, { s with draws := s.draws + 1 })

/-- What a turn comes to: one micro-step of an operation, or a transition that no operation makes. -/
inductive Selected where
  | run (i : Instr) (s : State)
  | settled (s : State)
deriving DecidableEq, Repr

/-- The turn of `HOST` (R94, R233, R237): nothing while a handler is active; the next micro-step of the
command in progress; or, when idle, the next command word, taken from the command port. With no word
presented `HOST` stays idle (R261). -/
def selectHost (s : State) : Selected :=
  if s.handlerActive then .settled s
  else
    match s.host.phase, s.program with
    | .idle, [] => .settled s
    | .idle, w :: ws => .run (decodeCommand w) { s with program := ws }
    | _, _ => .run (instrOf s.host.op s.host.arg) s

/-- What each turn comes to (R237). -/
def select (t : Turn) (s : State) : Selected :=
  match t with
  | .host => selectHost s
  | .handler ev => .run (decodeEvent ev) s
  | .peRx b => .settled (peRx b s)
  | .peTxe => .settled (peTxe s)

/-- A command word is the next one on the command port, `HOST` is idle and not preempted, and the next
turn is its own. -/
def placeCommand (w : CommandWord) (s : State) : State :=
  { s with
    program := w :: s.program
    schedule := .host :: s.schedule
    host := { s.host with phase := .idle }
    rxh := { s.rxh with phase := .idle }
    txh := { s.txh with phase := .idle } }

/-- The event is pending and enabled, its handler is idle, and the next turn is the handler's. -/
def placeEvent (ev : EventBit) (s : State) : State :=
  if ev = 0#1 then
    { s with
      schedule := .handler ev :: s.schedule
      periph := { s.periph with rxifg := true }
      rxie := true
      rxh := { s.rxh with phase := .idle } }
  else
    { s with
      schedule := .handler ev :: s.schedule
      periph := { s.periph with txifg := true }
      txie := true
      txh := { s.txh with phase := .idle } }

/-- Put a packet where the next step takes it up. -/
def placePacket (p : Packet) (s : State) : State :=
  match p with
  | .command w => placeCommand w s
  | .event ev => placeEvent ev s

end Sys2Proof.Machine
end

