-- ==== Sys2Proof/Machine/Step.lean ====
section
/-! DEFINITION. One step of the machine: the next turn of the run (R68, R237). -/

namespace Sys2Proof.Machine

/-- The transition that a turn comes to. -/
def Selected.outcome : Selected → Result
  | .run i s => exec i s
  | .settled s => .next s

/-- One step: the agent whose turn it is takes one micro-step. A turn of an agent that has no step to
take changes nothing but the schedule. -/
def step (s : State) : Host.Outcome State Fault Refusal :=
  (select s.nextTurn.1 s.nextTurn.2).outcome

/-- The state whose next step takes up exactly the operation that a word of the opcode table names: a
command word on the command port, or an event pending and enabled. Bits that are no packet change
nothing. -/
def State.withFetchWord (s : State) (nbits w : Nat) : State :=
  match packetOfBits nbits w with
  | .ok p => placePacket p s
  | .error _ => s

end Sys2Proof.Machine
end

