-- ==== Sys2Proof/Safety.lean ====
section
/-! DEFINITION. What the statements about runs are written in: the reachable states, the invariant that
every step keeps, the gating contract (R175), the byte streams of the two sides (R159, R178), the end of
a run (R272), and the scripts of the bounded liveness statements (R270). -/

namespace Sys2Proof.Safety

open Sys2Proof.Machine

/-- A state that some run passes through: a run starts from reset with any list of command words and
any script of turns (R94, R237), and goes on by steps of the machine. -/
inductive Reachable : State → Prop where
  | start (program : List CommandWord) (schedule : List Turn) :
      Reachable { State.reset with program := program, schedule := schedule }
  | step {s t : State} : Reachable s → step s = .next t → Reachable t

/-! ## The invariant -/

/-- The command that a label of the `HOST` sequencer belongs to (R51). -/
def phaseOp : HPhase → Option HostOp
  | .idle => none
  | .b1 | .b2 | .b3 | .b4 | .b5 => some .begin
  | .e1 | .e2 | .e3 => some .end_
  | .a1 => some .available
  | .k1 | .k2 => some .peek
  | .d1 | .d2 | .d3 => some .read
  | .w1 | .w2 | .w3 | .w4 => some .write
  | .f1 => some .flush

/-- Both byte arrays are in canonical form (assumption log, entry 4). -/
abbrev MemoryOk (s : State) : Prop := s.rx.buf.wf = true ∧ s.tx.buf.wf = true

/-- The label of `HOST` belongs to the command in progress (R51). -/
abbrev PhaseOk (s : State) : Prop :=
  s.host.phase = .idle ∨ phaseOp s.host.phase = some s.host.op

/-- What `BEGIN` rests on from its issue to its end (R197): no outbound traffic, and from `B2` on a line
configuration computed from its operand (R191). -/
abbrev BeginOk (s : State) : Prop :=
  (phaseOp s.host.phase = some .begin → s.tx.empty = true ∧ s.txie = false) ∧
  (s.host.phase = .b2 ∨ s.host.phase = .b3 →
    s.host.arg ≠ 0 ∧ s.host.line = lineConfig Config.srcClkHz.toNat s.host.arg.toNat)

/-- What `WRITE` rests on between `W1` and `W3` (R123 (f), R131 (i)): the candidate `head` is the next one
and `tx` is not full; and at `W3` the byte is in its slot (R69). -/
abbrev WriteOk (s : State) : Prop :=
  (s.host.phase = .w2 ∨ s.host.phase = .w3 →
    s.host.nxt = inc s.tx.head ∧ s.tx.full = false) ∧
  (s.host.phase = .w3 → memRead .tx s.tx.head s = byteOfArg s.host.arg)

/-- What `PEEK` and `READ` rest on after their first micro-step (R131 (ii)). -/
abbrev ReadOk (s : State) : Prop :=
  (s.host.phase = .k2 ∨ s.host.phase = .d2 ∨ s.host.phase = .d3 → s.rx.empty = false) ∧
  (s.host.phase = .d3 → s.host.byte = memRead .rx s.rx.tail s)

/-- What `END` rests on: `tx` stays drained, and the sampled pointer lies between `tail` and `head`. -/
abbrev EndOk (s : State) : Prop :=
  (s.host.phase = .e2 ∨ s.host.phase = .e3 → s.tx.empty = true) ∧
  (s.host.phase = .e3 → ptrDist s.host.ptr s.rx.tail ≤ ptrDist s.rx.head s.rx.tail)

/-- What `RXISR` rests on (R131 (i)): `RXIE` is on, the candidate `head` is the next one and `rx` is not
full, and at `X4` the byte is in its slot (R69). -/
abbrev RxisrOk (s : State) : Prop :=
  (s.rxh.phase ≠ .idle → s.rxie = true) ∧
  (s.rxh.phase = .x3 ∨ s.rxh.phase = .x4 →
    s.rxh.nxt = inc s.rx.head ∧ s.rx.full = false) ∧
  (s.rxh.phase = .x4 → memRead .rx s.rx.head s = s.rxh.byte)

/-- What `TXISR` rests on (R131 (ii), R175): `TXIE` and `TXIFG` are on, `tx` is still as `Y1` found it, and
at `Y3` the latch holds the oldest byte (R70). -/
abbrev TxisrOk (s : State) : Prop :=
  (s.txh.phase ≠ .idle → s.txie = true ∧ s.periph.txifg = true) ∧
  (s.txh.phase = .y2 ∨ s.txh.phase = .y3 → s.tx.empty = false) ∧
  (s.txh.phase = .y3 → s.txh.byte = memRead .tx s.tx.tail s) ∧
  (s.txh.phase = .y5 → s.tx.empty = true)

/-- The gating contract (R175): outside the window from `W3` to `W4`, queued data is never stranded with
the transmit interrupt disabled. -/
abbrev GatingOk (s : State) : Prop :=
  s.host.phase ≠ .w4 → ¬ (0 < s.tx.count ∧ s.txie = false)

/-- Every entry of `RXLOG` has its tag (R50), except the one of an invocation of `RXISR` that has read
its byte and has not ended (assumption log, entry 13). -/
abbrev LogOk (s : State) : Prop :=
  (s.rxh.phase = .idle ∨ s.rxh.phase = .x1 → ∀ e ∈ s.ghost.rxLog, e.fate ≠ .pending) ∧
  (s.rxh.phase = .x2 ∨ s.rxh.phase = .x3 ∨ s.rxh.phase = .x4 →
    ∃ l, s.ghost.rxLog = l ++ [{ byte := s.rxh.byte, fate := .pending }] ∧ ∀ e ∈ l, e.fate ≠ .pending)

/-- `RXDROP` is the number of dropped bytes (R50). -/
abbrev DropCountOk (s : State) : Prop :=
  s.ghost.rxDrop = (s.ghost.rxLog.filter fun e => e.fate = .dropped).length

/-- The invariant of the machine. -/
structure MachineInv (s : State) : Prop where
  memory : MemoryOk s
  phase  : PhaseOk s
  begin  : BeginOk s
  write  : WriteOk s
  read   : ReadOk s
  end_   : EndOk s
  rxisr  : RxisrOk s
  txisr  : TxisrOk s
  gating : GatingOk s
  log    : LogOk s
  drops  : DropCountOk s

/-- `WRITE` spins at `W1` on a full `tx`, and the peripheral is stalled: `TXIFG` is 0 and no invocation of
`TXISR` is under way, so nothing drains `tx` until a `PE_TXE` (R172 (b), R271). `RXISR` may be active. -/
abbrev WriteStalled (s : State) : Prop :=
  PhaseOk s ∧ s.host.phase = .w1 ∧ s.tx.full = true ∧ s.txh.phase = .idle ∧ s.periph.txifg = false

/-! ## The byte streams -/

/-- The byte that `TXISR` has popped and not yet handed over (R178): between `Y3` and `Y4`. -/
def inTransit (s : State) : List Byte :=
  match s.txh.phase with
  | .y4 => [s.txh.byte]
  | _ => []

/-- The transmit side as one sequence, oldest first: handed over, in transit, queued (R178). -/
def txStream (s : State) : List Byte := s.ghost.txLog ++ inTransit s ++ live .tx s

/-! ## The end of a run -/

/-- A run of a host program is over: the last command has responded, both handlers are idle, and no event
is pending with its enable set (R272). -/
def runOver (s : State) : Bool :=
  s.program.isEmpty && s.host.phase == .idle && !s.handlerActive && !s.rxEvent && !s.txEvent

/-! ## Runs of the buffer primitives -/

/-- Push the bytes in order; the flags say which were accepted. -/
def pushAll (f : FifoId) : List Byte → State → State × List Bool
  | [], s => (s, [])
  | b :: bs, s =>
    let (s₁, a) := tryPush f b s
    let (s₂, as) := pushAll f bs s₁
    (s₂, a :: as)

/-- Pop `n` times. -/
def popAll (f : FifoId) : Nat → State → State × List (Option Byte)
  | 0, s => (s, [])
  | n + 1, s =>
    let (s₁, b) := tryPop f s
    let (s₂, bs) := popAll f n s₁
    (s₂, b :: bs)

/-! ## Scripts -/

/-- `PERIPH` becomes ready and one whole invocation of `TXISR` runs: its entry, `Y1` to `Y4`. -/
def drainOne : List Turn :=
  [.peTxe, .handler 1, .handler 1, .handler 1, .handler 1, .handler 1]

/-- The same, `n` times. -/
def drainScript : Nat → List Turn
  | 0 => []
  | n + 1 => drainOne ++ drainScript n

end Sys2Proof.Safety
end

