-- ==== Sys2Proof/WellFormed.lean ====
section
/-! DEFINITION. Which instructions have a meaning of their own, whatever the state (R98, R197 (b)).
Operand ranges need no check: an operand is a bit vector of the width R93 gives it. -/

namespace Sys2Proof

/-- The operation number is assigned: everything but op 7 (R98). -/
def Instr.assigned : Instr → Bool
  | .reserved7 => false
  | _ => true

/-- The divisions of `BEGIN` have a result: the baud rate is not 0 (R197 (b)). -/
def Instr.baudDefined : Instr → Bool
  | .begin baud => baud != 0
  | _ => true

/-- The two checks together. An instruction that fails one is refused in every state that runs it to
the micro-step concerned. -/
def Instr.wellFormed (i : Instr) : Bool := i.assigned && i.baudDefined

end Sys2Proof
end

