-- ==== Sys2Proof/Certificates/Slice0/Obligations.lean ====
section
/-! DEFINITION. The statements for the provers. Each docstring names the rule it formalises. `exec i s`
is ONE micro-step of the operation `i`: a completion statement gives the whole chain of micro-steps that
an uninterrupted operation takes, from its issue to its response. -/

open Sys2Proof Sys2Proof.Machine Sys2Proof.Safety

/-! ## Reset -/

/-- R55: after reset both buffers are empty with `head = tail = 0`, every slot is unspecified (it holds
the free value), both enables and both pending bits are 0, the three sequencers are idle and the traces
are empty. The index 0, `RXIE`, the pending bits and the idle sequencers are the spec's decision D11. -/
def Obligations.ResetLeavesBlockEmptyAndDisabled : Prop :=
  State.reset.rx.head = 0 ∧ State.reset.rx.tail = 0 ∧ State.reset.tx.head = 0 ∧ State.reset.tx.tail = 0 ∧
  (∀ f, (State.reset.fifo f).empty = true ∧ (State.reset.fifo f).count = 0 ∧
    (State.reset.fifo f).full = false) ∧
  (∀ f i, memRead f i State.reset = Config.unwrittenSlot f i.toNat) ∧
  State.reset.rxie = false ∧ State.reset.txie = false ∧
  State.reset.host.phase = .idle ∧ State.reset.rxh.phase = .idle ∧ State.reset.txh.phase = .idle ∧
  State.reset.periph.rxifg = false ∧ State.reset.periph.txifg = false ∧
  State.reset.ghost = { txLog := [], rxLog := [], rxDrop := 0 }

/-- The invariant holds after reset, whatever command words and whatever script are then presented. Its parts
`MemoryOk` and `LogOk` are about the model's choices (assumption log, entries 4 and 13). -/
def Obligations.ResetSatisfiesInvariant : Prop :=
  ∀ program schedule, MachineInv { State.reset with program := program, schedule := schedule }

/-! ## Encoding -/

/-- R91 to R93, R98: the words of the table D-E, written out from the encoding. -/
def Obligations.WrittenWordsDecode : Prop :=
  decodeTableWord 40 0x000002580 = some (.begin 9600) ∧
  decodeTableWord 40 0x1FFFFFFFF = some .end_ ∧
  decodeTableWord 40 0x200000000 = some .available ∧
  decodeTableWord 40 0x300000000 = some .peek ∧
  decodeTableWord 40 0x412345678 = some .read ∧
  decodeTableWord 40 0x5000001FF = some (.write 0xFF) ∧
  decodeTableWord 40 0x600000000 = some .flush ∧
  decodeTableWord 40 0x700000000 = some .reserved7 ∧
  decodeTableWord 8 0 = some .rxisr ∧
  decodeTableWord 8 1 = some .txisr

/-- R92, R93, R98: for every operand field, the operation number alone decides the operation; the
operand of `BEGIN` is all of `arg`, that of `WRITE` is `arg[7:0]`, and every other operand bit is
ignored. Every command word is of this form. -/
def Obligations.OperationNumberDecides : Prop :=
  (∀ arg : Arg,
    decodeCommand (commandWord 0 arg) = .begin arg ∧
    decodeCommand (commandWord 1 arg) = .end_ ∧
    decodeCommand (commandWord 2 arg) = .available ∧
    decodeCommand (commandWord 3 arg) = .peek ∧
    decodeCommand (commandWord 4 arg) = .read ∧
    decodeCommand (commandWord 5 arg) = .write (arg.extractLsb' 0 8) ∧
    decodeCommand (commandWord 6 arg) = .flush ∧
    decodeCommand (commandWord 7 arg) = .reserved7) ∧
  ∀ w : CommandWord, ∃ op arg, w = commandWord op arg

/-- Decoding the encoding of an instruction gives it back, with every operand at every value. -/
def Obligations.DecodeOfEncodeIsIdentity : Prop :=
  ∀ i : Instr, decode (encode i) = i

/-- Encoding what a command word decodes to gives the word back with exactly the ignored operand bits
cleared (R93): no bit is dropped or invented. -/
def Obligations.EncodeOfDecodeClearsIgnoredBits : Prop :=
  ∀ w : CommandWord,
    encode (decodeCommand w) =
      .command (w &&&
        match decodeCommand w with
        | .begin _ => 0x7FFFFFFFF#35
        | .write _ => 0x7000000FF#35
        | _ => 0x700000000#35)

/-! ## Steps and turns -/

/-- R94, R96, R237: on `HOST`'s turn an idle, unpreempted host runs the operation that the next command
word decodes to, in the state with the word and the turn taken; a host with a command in progress runs
that command's next micro-step; on a handler's turn the event of that handler is run. -/
def Obligations.StepRunsDecodedOperation : Prop :=
  (∀ s w ws sch, s.schedule = .host :: sch → s.program = w :: ws → s.handlerActive = false →
    s.host.phase = .idle →
    step s = exec (decode (.command w)) { s with program := ws, schedule := sch }) ∧
  (∀ s sch, s.schedule = .host :: sch → s.handlerActive = false → s.host.phase ≠ .idle →
    step s = exec (instrOf s.host.op s.host.arg) { s with schedule := sch }) ∧
  (∀ s ev sch, s.schedule = .handler ev :: sch →
    step s = exec (decode (.event ev)) { s with schedule := sch })

/-- What `withFetchWord` places is what the next step runs: a command word, and an event. The placing is
the model's own (assumption log, entry 3). -/
def Obligations.PlacedWordIsRunNext : Prop :=
  (∀ (s : State) w, w < 2 ^ 35 →
    step (s.withFetchWord 40 w) =
      exec (decode (.command (BitVec.ofNat 35 w)))
        { s with host := { s.host with phase := .idle }, rxh := { s.rxh with phase := .idle },
                 txh := { s.txh with phase := .idle } }) ∧
  (∀ s : State, step (s.withFetchWord 8 0) = .next
    { s with periph := { s.periph with rxifg := true }, rxie := true,
             rxh := { s.rxh with phase := .x1 } }) ∧
  (∀ s : State, step (s.withFetchWord 8 1) = .next
    { s with periph := { s.periph with txifg := true }, txie := true,
             txh := { s.txh with phase := .y1 } })

/-- R233: while a handler is active every host command waits, and a turn of `HOST` changes nothing but
the script. -/
def Obligations.HostStallsWhileHandlerActive : Prop :=
  (∀ i s, i ≠ .reserved7 → i ≠ .rxisr → i ≠ .txisr → s.handlerActive = true → exec i s = .next s) ∧
  (∀ s sch, s.schedule = .host :: sch → s.handlerActive = true →
    step s = .next { s with schedule := sch })

/-- R261: with no command word presented an idle host stays idle. -/
def Obligations.IdleHostWaitsForCommandWord : Prop :=
  ∀ s sch, s.schedule = .host :: sch → s.program = [] → s.host.phase = .idle →
    step s = .next { s with schedule := sch }

/-- R232: the two steps of `PERIPH`. `PE_RX` has no guard and overwrites; `PE_TXE` sets `TXIFG`. Neither
touches a buffer, a pointer, an enable or a sequencer. `PE_TXE` has the guard `TXIFG = 0`; that its turn
changes nothing at `TXIFG = 1` is the model's choice (assumption log, entry 2). -/
def Obligations.PeripheralStepsSetPendingBits : Prop :=
  (∀ s b sch, s.schedule = .peRx b :: sch →
    step s = .next { s with schedule := sch, periph := { s.periph with rxbuf := b, rxifg := true } }) ∧
  (∀ s sch, s.schedule = .peTxe :: sch →
    step s = .next { s with schedule := sch, periph := { s.periph with txifg := true } })

/-- R231, R235, R238: an idle handler starts exactly when its condition holds, and its start sets its
phase and nothing else. -/
def Obligations.HandlerStartsIffEventPending : Prop :=
  ∀ s : State,
    (s.rxh.phase = .idle → s.periph.rxifg = true → s.rxie = true →
      exec .rxisr s = .next { s with rxh := { s.rxh with phase := .x1 } }) ∧
    (s.rxh.phase = .idle → (s.periph.rxifg = false ∨ s.rxie = false) → exec .rxisr s = .next s) ∧
    (s.txh.phase = .idle → s.periph.txifg = true → s.txie = true →
      exec .txisr s = .next { s with txh := { s.txh with phase := .y1 } }) ∧
    (s.txh.phase = .idle → (s.periph.txifg = false ∨ s.txie = false) → exec .txisr s = .next s)

/-- Micro-steps of the two handlers commute, in every state: an inference that R236 marks as derived. -/
def Obligations.HandlerMicroStepsCommute : Prop :=
  ∀ s, ∃ a b c, exec .rxisr s = .next a ∧ exec .txisr a = .next c ∧
    exec .txisr s = .next b ∧ exec .rxisr b = .next c

/-! ## Completion and result of each operation -/

/-- R155: `AVAILABLE` responds with `rx.count` and changes nothing else. What `h_op`, `h_arg` and the
latches hold after the response is the model's choice (assumption log, entries 5 and 8). -/
def Obligations.AvailableRespondsWithCount : Prop :=
  ∀ s : State, s.handlerActive = false → s.host.phase = .idle →
    ∃ s₁, exec .available s = .next s₁ ∧ exec .available s₁ = .next
      { s with
        host := { s.host with op := .available, arg := 0 }
        replies := s.replies ++
          [{ op := .available, word := some (BitVec.ofNat 16 ((16 + s.rx.head.toNat - s.rx.tail.toNat) % 16)) }] }

/-- R156: `PEEK` responds with the byte of slot `rx.tail`, zero-extended, and leaves `rx` as it is; on
an empty buffer it responds -1. What `h_op`, `h_arg` and the latches hold after the response is the
model's choice (assumption log, entries 5 and 8). -/
def Obligations.PeekRespondsWithOldestByte : Prop :=
  ∀ s : State, s.handlerActive = false → s.host.phase = .idle →
    (s.rx.head ≠ s.rx.tail →
      ∃ s₁ s₂, exec .peek s = .next s₁ ∧ exec .peek s₁ = .next s₂ ∧ exec .peek s₂ = .next
        { s with
          host := { s.host with op := .peek, arg := 0, byte := memRead .rx s.rx.tail s }
          replies := s.replies ++
            [{ op := .peek, word := some ((memRead .rx s.rx.tail s).setWidth 16) }] }) ∧
    (s.rx.head = s.rx.tail →
      ∃ s₁, exec .peek s = .next s₁ ∧ exec .peek s₁ = .next
        { s with
          host := { s.host with op := .peek, arg := 0 }
          replies := s.replies ++ [{ op := .peek, word := some 0xFFFF#16 }] })

/-- R157: `READ` responds with the byte of slot `rx.tail`, zero-extended, and advances `rx.tail`; on an
empty buffer it responds -1 and leaves `rx` as it is. What `h_op`, `h_arg` and the latches hold after
the response is the model's choice (assumption log, entries 5 and 8). -/
def Obligations.ReadConsumesOldestByte : Prop :=
  ∀ s : State, s.handlerActive = false → s.host.phase = .idle →
    (s.rx.head ≠ s.rx.tail →
      ∃ s₁ s₂ s₃, exec .read s = .next s₁ ∧ exec .read s₁ = .next s₂ ∧ exec .read s₂ = .next s₃ ∧
        exec .read s₃ = .next
          { s with
            rx := { s.rx with tail := s.rx.tail + 1 }
            host := { s.host with op := .read, arg := 0, byte := memRead .rx s.rx.tail s }
            replies := s.replies ++
              [{ op := .read, word := some ((memRead .rx s.rx.tail s).setWidth 16) }] }) ∧
    (s.rx.head = s.rx.tail →
      ∃ s₁, exec .read s = .next s₁ ∧ exec .read s₁ = .next
        { s with
          host := { s.host with op := .read, arg := 0 }
          replies := s.replies ++ [{ op := .read, word := some 0xFFFF#16 }] })

/-- R171: on a buffer that is not full `WRITE` stores its byte in slot `tx.head`, advances `tx.head`,
sets `TXIE` whatever it was, and responds 1; on a full buffer it stays at `W1`. What `h_op`, `h_arg` and
the latches hold after the response is the model's choice (assumption log, entries 5 and 8). -/
def Obligations.WriteQueuesByteAndEnablesInterrupt : Prop :=
  ∀ (s : State) (b : Byte), s.handlerActive = false → s.host.phase = .idle →
    (s.tx.full = false →
      ∃ s₁ s₂ s₃ s₄, exec (.write b) s = .next s₁ ∧ exec (.write b) s₁ = .next s₂ ∧
        exec (.write b) s₂ = .next s₃ ∧ exec (.write b) s₃ = .next s₄ ∧
        exec (.write b) s₄ = .next
          { s with
            tx := { s.tx with buf := s.tx.buf.write s.tx.head.toNat b, head := s.tx.head + 1 }
            txie := true
            host := { s.host with op := .write, arg := b.setWidth 32, nxt := s.tx.head + 1 }
            replies := s.replies ++ [{ op := .write, word := some 1#16 }] }) ∧
    (s.tx.full = true →
      ∃ s₁, exec (.write b) s = .next s₁ ∧ exec (.write b) s₁ = .next
        { s with
          host := { s.host with phase := .w1, op := .write, arg := b.setWidth 32, nxt := s.tx.head + 1 } })

/-- R176: on an empty `tx` `FLUSH` responds at its first `F1`, whatever `TXIE` is, and changes nothing
else; on any other it stays at `F1`. What `h_op`, `h_arg` and the latches hold after the response is the
model's choice (assumption log, entries 5 and 8). -/
def Obligations.FlushRespondsWhenDrained : Prop :=
  ∀ s : State, s.handlerActive = false → s.host.phase = .idle →
    (s.tx.head = s.tx.tail →
      ∃ s₁, exec .flush s = .next s₁ ∧ exec .flush s₁ = .next
        { s with
          host := { s.host with op := .flush, arg := 0 }
          replies := s.replies ++ [{ op := .flush, word := none }] }) ∧
    (s.tx.head ≠ s.tx.tail →
      ∃ s₁, exec .flush s = .next s₁ ∧ s₁.host.phase = .f1 ∧ exec .flush s₁ = .next s₁)

/-- R200: on an empty `tx` `END` sets `rx.tail` to `rx.head`, responds, and changes nothing else; `rx`
is then empty. On any other `tx` it stays at `E1`. What `h_op`, `h_arg` and the latches hold after the
response is the model's choice (assumption log, entries 5 and 8). -/
def Obligations.EndDiscardsUnreadBytes : Prop :=
  ∀ s : State, s.handlerActive = false → s.host.phase = .idle →
    (s.tx.head = s.tx.tail →
      ∃ s₁ s₂ s₃ t, exec .end_ s = .next s₁ ∧ exec .end_ s₁ = .next s₂ ∧ exec .end_ s₂ = .next s₃ ∧
        exec .end_ s₃ = .next t ∧ t =
          { s with
            rx := { s.rx with tail := s.rx.head }
            host := { s.host with op := .end_, arg := 0, ptr := s.rx.head }
            replies := s.replies ++ [{ op := .end_, word := none }] } ∧
        t.rx.count = 0 ∧ live .rx t = []) ∧
    (s.tx.head ≠ s.tx.tail →
      ∃ s₁, exec .end_ s = .next s₁ ∧ s₁.host.phase = .e1 ∧ exec .end_ s₁ = .next s₁)

/-- R191: inside its contract `BEGIN` puts the peripheral into reset, programs the line configuration of
its operand there, takes the peripheral out of reset, sets `RXIE` and responds; neither buffer, nor
`TXIE`, nor a pending bit is written. With `baud = 0` it is refused at `B1`. What `lineConfig` computes,
`LineConfigArithmetic` and `LineConfigWorkedValues` say. What `h_op`, `h_arg` and the latches hold after
the response is the model's choice (assumption log, entry 5). -/
def Obligations.BeginProgramsLineAndEnablesReceive : Prop :=
  ∀ (s : State) (baud : Arg), s.handlerActive = false → s.host.phase = .idle →
    s.trafficInFlight = false →
    (baud ≠ 0 →
      ∃ s₁ s₂ s₃ s₄ s₅, exec (.begin baud) s = .next s₁ ∧ exec (.begin baud) s₁ = .next s₂ ∧
        exec (.begin baud) s₂ = .next s₃ ∧ exec (.begin baud) s₃ = .next s₄ ∧
        exec (.begin baud) s₄ = .next s₅ ∧
        s₂.periph = s.periph ∧
        s₃.periph = { s₂.periph with swrst := true } ∧
        s₄.periph = { s₃.periph with
          brdiv := (lineConfig Config.srcClkHz.toNat baud.toNat).div
          mod := (lineConfig Config.srcClkHz.toNat baud.toNat).mod
          os16 := (lineConfig Config.srcClkHz.toNat baud.toNat).os } ∧
        s₅.periph = { s₄.periph with swrst := false } ∧ s₅.rxie = s.rxie ∧
        exec (.begin baud) s₅ = .next
          { s with
            rxie := true
            periph := { s.periph with
              swrst := false
              brdiv := (lineConfig Config.srcClkHz.toNat baud.toNat).div
              mod := (lineConfig Config.srcClkHz.toNat baud.toNat).mod
              os16 := (lineConfig Config.srcClkHz.toNat baud.toNat).os }
            host := { s.host with op := .begin, arg := baud
                                  line := lineConfig Config.srcClkHz.toNat baud.toNat }
            replies := s.replies ++ [{ op := .begin, word := none }] }) ∧
    (baud = 0 →
      ∃ s₁, exec (.begin baud) s = .next s₁ ∧ exec (.begin baud) s₁ = .refused .divisionByZero)

/-- R151: an invocation of `RXISR` that finds room reads `RXBUF`, clears `RXIFG`, stores the byte in
slot `rx.head` and advances `rx.head`; the trace gets the byte as accepted. What the latches of the
handler hold after `done` is the model's choice (assumption log, entry 5). The tags of `RXLOG` are as
entry 13 says. -/
def Obligations.RxisrStoresReceivedByte : Prop :=
  ∀ s : State, s.rxh.phase = .idle → s.periph.rxifg = true → s.rxie = true → s.rx.full = false →
    ∃ s₁ s₂ s₃ s₄, exec .rxisr s = .next s₁ ∧ exec .rxisr s₁ = .next s₂ ∧ exec .rxisr s₂ = .next s₃ ∧
      exec .rxisr s₃ = .next s₄ ∧ exec .rxisr s₄ = .next
        { s with
          rx := { s.rx with buf := s.rx.buf.write s.rx.head.toNat s.periph.rxbuf, head := s.rx.head + 1 }
          periph := { s.periph with rxifg := false }
          rxh := { phase := .idle, byte := s.periph.rxbuf, nxt := s.rx.head + 1 }
          ghost := { s.ghost with
            rxLog := s.ghost.rxLog ++ [{ byte := s.periph.rxbuf, fate := .accepted }] } }

/-- R151, R152 (a): an invocation of `RXISR` that finds `rx` full reads `RXBUF` and clears `RXIFG` all
the same, and drops the byte: `rx` is unchanged. What the latches of the handler hold after `done` is
the model's choice (assumption log, entry 5). The tags of `RXLOG` are as entry 13 says. -/
def Obligations.RxisrDropsByteWhenFull : Prop :=
  ∀ s : State, s.rxh.phase = .idle → s.periph.rxifg = true → s.rxie = true → s.rx.full = true →
    ∃ s₁ s₂, exec .rxisr s = .next s₁ ∧ exec .rxisr s₁ = .next s₂ ∧ exec .rxisr s₂ = .next
      { s with
        periph := { s.periph with rxifg := false }
        rxh := { phase := .idle, byte := s.periph.rxbuf, nxt := s.rx.head + 1 }
        ghost := { s.ghost with
          rxLog := s.ghost.rxLog ++ [{ byte := s.periph.rxbuf, fate := .dropped }]
          rxDrop := s.ghost.rxDrop + 1 } }

/-- R173: an invocation of `TXISR` on a non-empty `tx` pops the byte of slot `tx.tail`, writes it to
`TXBUF`, which clears `TXIFG`, and leaves `TXIE` as it is. What the latches of the handler hold after
`done` is the model's choice (assumption log, entry 5). -/
def Obligations.TxisrHandsOverOldestByte : Prop :=
  ∀ s : State, s.txh.phase = .idle → s.periph.txifg = true → s.txie = true → s.tx.empty = false →
    ∃ s₁ s₂ s₃ s₄, exec .txisr s = .next s₁ ∧ exec .txisr s₁ = .next s₂ ∧ exec .txisr s₂ = .next s₃ ∧
      exec .txisr s₃ = .next s₄ ∧ exec .txisr s₄ = .next
        { s with
          tx := { s.tx with tail := s.tx.tail + 1 }
          periph := { s.periph with txbuf := memRead .tx s.tx.tail s, txifg := false }
          txh := { phase := .idle, byte := memRead .tx s.tx.tail s }
          ghost := { s.ghost with txLog := s.ghost.txLog ++ [memRead .tx s.tx.tail s] } }

/-- R174 (a): an invocation of `TXISR` on an empty `tx` clears `TXIE`, leaves `TXIFG` at 1, and changes
nothing else; the handler does not start again. -/
def Obligations.TxisrDisablesItselfWhenEmpty : Prop :=
  ∀ s : State, s.txh.phase = .idle → s.periph.txifg = true → s.txie = true → s.tx.empty = true →
    ∃ s₁ s₂ t, exec .txisr s = .next s₁ ∧ exec .txisr s₁ = .next s₂ ∧ exec .txisr s₂ = .next t ∧
      t = { s with txie := false } ∧ exec .txisr t = .next t

/-- R98: the unassigned operation number is refused in every state, and no other word is. -/
def Obligations.ReservedOperationIsRefused : Prop :=
  (∀ s, exec .reserved7 s = .refused .reservedOperation) ∧
  ∀ i s, exec i s = .refused .reservedOperation → i = .reserved7

/-- R197: `BEGIN` is refused when it is issued with outbound traffic in flight, and at `B1` when its
operand is 0. -/
def Obligations.BeginOutsideContractIsRefused : Prop :=
  (∀ s baud, s.handlerActive = false → s.host.phase = .idle →
    (0 < s.tx.count ∨ s.txie = true) → exec (.begin baud) s = .refused .trafficInFlight) ∧
  (∀ s : State, s.handlerActive = false → s.host.phase = .idle → s.tx.count = 0 → s.txie = false →
    ∃ s₁, exec (.begin 0) s = .next s₁ ∧ exec (.begin 0) s₁ = .refused .divisionByZero)

/-- R220: no operation faults, and the refusals are exactly those of R98 and R197. -/
def Obligations.OnlyStatedRefusalsStop : Prop :=
  (∀ s r, step s ≠ .fault r) ∧
  ∀ i s r, exec i s = .refused r →
    (i = .reserved7 ∧ r = .reservedOperation) ∨
    (∃ baud, i = .begin baud ∧ s.host.phase = .idle ∧ s.trafficInFlight = true ∧ r = .trafficInFlight) ∨
    (∃ baud, i = .begin baud ∧ s.host.phase = .b1 ∧ s.host.arg = 0 ∧ r = .divisionByZero)

/-- R271: the three blocking commands are given no step that lets them through while their spin
condition holds: `F1` and `E1` change nothing, and `W1` only loads its latch again. -/
def Obligations.BlockingCommandsSpin : Prop :=
  ∀ s : State, s.handlerActive = false →
    (s.host.phase = .f1 → 0 < s.tx.count → exec .flush s = .next s) ∧
    (s.host.phase = .e1 → 0 < s.tx.count → exec .end_ s = .next s) ∧
    (∀ b, s.host.phase = .w1 → s.tx.full = true →
      exec (.write b) s = .next { s with host := { s.host with nxt := s.tx.head + 1 } })

/-! ## Frames: what an operation leaves unchanged, at every one of its micro-steps -/

/-- R155, R156, R176: `AVAILABLE`, `PEEK` and `FLUSH` change nothing but the sequencer of `HOST` and the
responses: no pointer, no enable, no register of the peripheral, no trace, and no slot of either buffer. -/
def Obligations.FrameOfReadOnlyCommands : Prop :=
  ∀ i s t, i = .available ∨ i = .peek ∨ i = .flush → exec i s = .next t →
    (∀ f, (t.fifo f).head = (s.fifo f).head ∧ (t.fifo f).tail = (s.fifo f).tail) ∧
    t.rxie = s.rxie ∧ t.txie = s.txie ∧ t.periph = s.periph ∧ t.rxh = s.rxh ∧ t.txh = s.txh ∧
    t.ghost = s.ghost ∧ t.program = s.program ∧ t.schedule = s.schedule ∧ t.draws = s.draws ∧
    ∀ f a, memRead f a t = memRead f a s

/-- R157, R200, R202: `READ` and `END` change of the shared state only `rx.tail`. -/
def Obligations.FrameOfReadAndEnd : Prop :=
  ∀ i s t, i = .read ∨ i = .end_ → exec i s = .next t →
    t.rx.head = s.rx.head ∧ t.tx.head = s.tx.head ∧ t.tx.tail = s.tx.tail ∧
    t.rxie = s.rxie ∧ t.txie = s.txie ∧ t.periph = s.periph ∧ t.rxh = s.rxh ∧ t.txh = s.txh ∧
    t.ghost = s.ghost ∧ t.program = s.program ∧ t.schedule = s.schedule ∧ t.draws = s.draws ∧
    ∀ f a, memRead f a t = memRead f a s

/-- R171: `WRITE` changes of the shared state only `tx.head`, `TXIE` and, at `W2`, the slot that
`pushSlot` names; at every other micro-step it stores nothing. -/
def Obligations.FrameOfWrite : Prop :=
  ∀ b s t, exec (.write b) s = .next t →
    t.tx.tail = s.tx.tail ∧ t.rx.head = s.rx.head ∧ t.rx.tail = s.rx.tail ∧
    t.rxie = s.rxie ∧ t.periph = s.periph ∧ t.rxh = s.rxh ∧ t.txh = s.txh ∧
    t.ghost = s.ghost ∧ t.program = s.program ∧ t.schedule = s.schedule ∧ t.draws = s.draws ∧
    (∀ a, memRead .rx a t = memRead .rx a s) ∧
    (∀ a, a ≠ pushSlot .tx s → memRead .tx a t = memRead .tx a s) ∧
    (s.host.phase ≠ .w2 → ∀ a, memRead .tx a t = memRead .tx a s)

/-- R191: `BEGIN` changes of the shared state only `SWRST`, `BRDIV`, `MOD`, `OS16` and `RXIE`. -/
def Obligations.FrameOfBegin : Prop :=
  ∀ baud s t, exec (.begin baud) s = .next t →
    (∀ f, (t.fifo f).head = (s.fifo f).head ∧ (t.fifo f).tail = (s.fifo f).tail) ∧
    t.txie = s.txie ∧ t.periph.rxbuf = s.periph.rxbuf ∧ t.periph.rxifg = s.periph.rxifg ∧
    t.periph.txbuf = s.periph.txbuf ∧ t.periph.txifg = s.periph.txifg ∧ t.rxh = s.rxh ∧ t.txh = s.txh ∧
    t.ghost = s.ghost ∧ t.program = s.program ∧ t.schedule = s.schedule ∧ t.draws = s.draws ∧
    ∀ f a, memRead f a t = memRead f a s

/-- R151: `RXISR` changes of the shared state only `RXIFG`, `rx.head` and, at `X3`, the slot that
`pushSlot` names; nothing of `tx`, nothing of the enables, nothing of `HOST`. -/
def Obligations.FrameOfRxisr : Prop :=
  ∀ s t, exec .rxisr s = .next t →
    t.rx.tail = s.rx.tail ∧ t.tx.head = s.tx.head ∧ t.tx.tail = s.tx.tail ∧
    t.rxie = s.rxie ∧ t.txie = s.txie ∧
    t.periph = { s.periph with rxifg := t.periph.rxifg } ∧ t.host = s.host ∧ t.txh = s.txh ∧
    t.ghost.txLog = s.ghost.txLog ∧ t.replies = s.replies ∧
    t.program = s.program ∧ t.schedule = s.schedule ∧ t.draws = s.draws ∧
    (∀ a, memRead .tx a t = memRead .tx a s) ∧
    (∀ a, a ≠ pushSlot .rx s → memRead .rx a t = memRead .rx a s) ∧
    (s.rxh.phase ≠ .x3 → ∀ a, memRead .rx a t = memRead .rx a s)

/-- R173, R174 (g): `TXISR` changes of the shared state only `tx.tail`, `TXBUF`, `TXIFG` and `TXIE`; it
stores to no slot and touches nothing of `rx`, `RXIE`, `RXIFG` or `HOST`. -/
def Obligations.FrameOfTxisr : Prop :=
  ∀ s t, exec .txisr s = .next t →
    t.tx.head = s.tx.head ∧ t.rx.head = s.rx.head ∧ t.rx.tail = s.rx.tail ∧ t.rxie = s.rxie ∧
    t.periph = { s.periph with txbuf := t.periph.txbuf, txifg := t.periph.txifg } ∧
    t.host = s.host ∧ t.rxh = s.rxh ∧
    t.ghost.rxLog = s.ghost.rxLog ∧ t.ghost.rxDrop = s.ghost.rxDrop ∧ t.replies = s.replies ∧
    t.program = s.program ∧ t.schedule = s.schedule ∧ t.draws = s.draws ∧
    ∀ f a, memRead f a t = memRead f a s

/-! ## Buffer primitives -/

/-- R69, R70: reading a slot after writing it gives the byte written; every other slot of either buffer
reads as before. -/
def Obligations.SlotReadAfterSlotWrite : Prop :=
  ∀ f i v s, memRead f i (memWrite f i v s) = v ∧
    ∀ g j, (g, j) ≠ (f, i) → memRead g j (memWrite f i v s) = memRead g j s

/-- R24, R25, R26: the flags as functions of the pointers; and the relations between them, which those
rules mark as derived. -/
def Obligations.FlagsOfPointers : Prop :=
  ∀ f : Fifo,
    (f.empty = true ↔ f.head = f.tail) ∧
    (f.full = true ↔ (f.head.toNat + 1) % 16 = f.tail.toNat) ∧
    f.count = (16 + f.head.toNat - f.tail.toNat) % 16 ∧ f.count ≤ 15 ∧
    (f.empty = true ↔ f.count = 0) ∧ (f.full = true ↔ f.count = 15) ∧
    ¬ (f.empty = true ∧ f.full = true)

/-- R122, R123: on a full buffer `PUSH` is rejected and changes nothing; otherwise the byte becomes the
newest live byte, and the count grows by one. -/
def Obligations.PushAppendsOrRejects : Prop :=
  ∀ f b s,
    ((s.fifo f).full = true → tryPush f b s = (s, false)) ∧
    ((s.fifo f).full = false → (tryPush f b s).2 = true ∧
      live f (tryPush f b s).1 = live f s ++ [b] ∧
      ((tryPush f b s).1.fifo f).head = (s.fifo f).head + 1 ∧
      ((tryPush f b s).1.fifo f).tail = (s.fifo f).tail ∧
      ((tryPush f b s).1.fifo f).count = (s.fifo f).count + 1)

/-- R124, R126: `PEEKQ` and `POP` report the oldest live byte, or none on an empty buffer; `PEEKQ`
changes nothing, and `POP` takes that byte away, so that only the pop makes the count smaller by one. -/
def Obligations.PopReturnsOldestAndPeekKeepsIt : Prop :=
  ∀ f s,
    peekQ f s = (live f s).head? ∧ (tryPop f s).2 = peekQ f s ∧
    live f (tryPop f s).1 = (live f s).tail ∧
    ((s.fifo f).empty = true → tryPop f s = (s, none)) ∧
    ((s.fifo f).empty = false → (s.fifo f).count = ((tryPop f s).1.fifo f).count + 1 ∧
      ((tryPop f s).1.fifo f).tail = (s.fifo f).tail + 1 ∧
      ((tryPop f s).1.fifo f).head = (s.fifo f).head)

/-- R130, V1, V2: pushing any list of bytes on a buffer keeps as many as there is room for and rejects
the rest, and as many pops then return exactly the bytes kept, in the order pushed, after those that
were there. -/
def Obligations.FifoOrderAndFullDrop : Prop :=
  ∀ f (bs : List Byte) s,
    live f (pushAll f bs s).1 = live f s ++ bs.take (15 - (s.fifo f).count) ∧
    (pushAll f bs s).2 = (List.range bs.length).map (fun k => decide (k < 15 - (s.fifo f).count)) ∧
    (popAll f (live f (pushAll f bs s).1).length (pushAll f bs s).1).2 =
      (live f s ++ bs.take (15 - (s.fifo f).count)).map some

/-! ## Line configuration -/

/-- R198: the worked values, row by row: the ratio, and the line configuration. -/
def Obligations.LineConfigWorkedValues : Prop :=
  (lineRatio 1000000 9600 = 104 ∧
    lineConfig 1000000 9600 = { d := 1666, div := 6, mod := Config.modOS 1666, os := true }) ∧
  (lineRatio 8000000 9600 = 833 ∧
    lineConfig 8000000 9600 = { d := 13333, div := 52, mod := Config.modOS 13333, os := true }) ∧
  (lineRatio 16000000 9600 = 1666 ∧
    lineConfig 16000000 9600 = { d := 26666, div := 104, mod := Config.modOS 26666, os := true }) ∧
  (lineRatio 1000000 20833 = 48 ∧
    lineConfig 1000000 20833 = { d := 768, div := 3, mod := Config.modOS 768, os := true }) ∧
  (lineRatio 1000000 21000 = 47 ∧
    lineConfig 1000000 21000 = { d := 761, div := 47, mod := Config.modLF 9, os := false }) ∧
  (lineRatio 1000000 115200 = 8 ∧
    lineConfig 1000000 115200 = { d := 138, div := 8, mod := Config.modLF 10, os := false }) ∧
  (lineRatio 1000000 2000000 = 0 ∧
    lineConfig 1000000 2000000 = { d := 8, div := 0, mod := Config.modLF 8, os := false })

/-- R193, R194: oversampling is selected exactly when the ratio is at least 48; the divisor is then `D
>> 8` and the modulation comes from the whole of `D`; otherwise the divisor is `D >> 4` and the
modulation comes from the low nibble of `D`. `D` loses no bit (R192). The clauses that bring the divisor
back to the ratio, with its bounds 3 and 47, are what R192 marks as derived. -/
def Obligations.LineConfigArithmetic : Prop :=
  ∀ clk baud : Nat, clk < 2 ^ 32 → 0 < baud →
    (lineConfig clk baud).d.toNat = 16 * clk / baud ∧
    ((lineConfig clk baud).os = true ↔ 48 ≤ clk / baud) ∧
    ((lineConfig clk baud).os = false →
      (lineConfig clk baud).div = 16 * clk / baud / 16 ∧
      (lineConfig clk baud).div = clk / baud ∧ (lineConfig clk baud).div ≤ 47 ∧
      (lineConfig clk baud).mod = Config.modLF (BitVec.ofNat 4 (16 * clk / baud % 16))) ∧
    ((lineConfig clk baud).os = true →
      (lineConfig clk baud).div = 16 * clk / baud / 256 ∧
      (lineConfig clk baud).div = clk / baud / 16 ∧ 3 ≤ (lineConfig clk baud).div ∧
      (lineConfig clk baud).mod = Config.modOS (BitVec.ofNat 36 (16 * clk / baud)))

/-! ## Whole-machine rules -/

/-- Every step keeps the invariant (R50, R51, R69, R70, R131, R175, R191, R197, R200, R234). Two of its parts
are about the model's choices: `MemoryOk`, the canonical form of the byte arrays (assumption log, entry 4),
and in `LogOk` the tag `pending` of an entry of `RXLOG` from `X1` to the end of the invocation (entry 13). -/
def Obligations.EveryStepKeepsInvariant : Prop :=
  ∀ s t, MachineInv s → step s = .next t → MachineInv t

/-- The gating contract, which R175 marks as derived: in every state that some run passes through,
outside the window from `W3` to `W4`, queued data is never stranded with the transmit interrupt
disabled. -/
def Obligations.QueuedDataNeverStranded : Prop :=
  ∀ s, Reachable s → s.host.phase ≠ .w4 → ¬ (0 < s.tx.count ∧ s.txie = false)

/-- What R178 marks as derived, for one step: on the transmit side the sequence of bytes handed over, in
transit and queued grows only by the byte of a `WRITE` at its `W3`, at its end; no other step of any
agent loses, repeats or reorders one. -/
def Obligations.TransmitOrderIsKept : Prop :=
  ∀ s t, MachineInv s → step s = .next t →
    txStream t = txStream s ++
      (if s.host.phase = .w3 ∧ t.host.phase = .w4 then [byteOfArg s.host.arg] else [])

/-- FIFO order (R130) and what R159 marks as derived, for one step: on the receive side a step adds to
the unread bytes only the byte that `RXISR` publishes, at the end; it takes away only the oldest, which
`READ` then responds with, or those that `END` discards, the oldest ones. -/
def Obligations.ReceiveOrderIsKept : Prop :=
  ∀ s t, MachineInv s → step s = .next t →
    (s.rxh.phase = .x4 ∧ t.rxh.phase = .idle ∧ live .rx t = live .rx s ++ [s.rxh.byte]) ∨
    (s.host.phase = .d3 ∧ t.host.phase = .idle ∧
      ∃ b, live .rx s = b :: live .rx t ∧
        t.replies = s.replies ++ [{ op := .read, word := some (b.setWidth 16) }]) ∨
    (s.host.phase = .e3 ∧ t.host.phase = .idle ∧ ∃ n, live .rx t = (live .rx s).drop n) ∨
    live .rx t = live .rx s

/-- R23: whoever steps, each pointer and each byte array changes only at the micro-step of its one
writer. -/
def Obligations.EachPointerHasOneWriter : Prop :=
  ∀ s t, step s = .next t →
    (t.rx.head ≠ s.rx.head → s.rxh.phase = .x4) ∧
    (t.rx.buf ≠ s.rx.buf → s.rxh.phase = .x3) ∧
    (t.rx.tail ≠ s.rx.tail → s.host.phase = .d3 ∨ s.host.phase = .e3) ∧
    (t.tx.head ≠ s.tx.head → s.host.phase = .w3) ∧
    (t.tx.buf ≠ s.tx.buf → s.host.phase = .w2) ∧
    (t.tx.tail ≠ s.tx.tail → s.txh.phase = .y3)

/-- What R22 marks as derived: a pointer moves only to the next slot, except that `END` may set
`rx.tail` to the value that it sampled. -/
def Obligations.PointersOnlyAdvance : Prop :=
  ∀ s t, MachineInv s → step s = .next t →
    (t.rx.head = s.rx.head ∨ t.rx.head = s.rx.head + 1) ∧
    (t.rx.tail = s.rx.tail ∨ t.rx.tail = s.rx.tail + 1 ∨
      (s.host.phase = .e3 ∧ t.rx.tail = s.host.ptr)) ∧
    (t.tx.head = s.tx.head ∨ t.tx.head = s.tx.head + 1) ∧
    (t.tx.tail = s.tx.tail ∨ t.tx.tail = s.tx.tail + 1)

/-- R31, R32: `RXIE` is written only by `BEGIN` at `B5`, its last micro-step, which sets it; nothing
clears it. `TXIE` is set only by `WRITE` at `W4`, after its push, and cleared only by `TXISR` at `Y5`,
where `Y1` goes when it finds `tx` empty. -/
def Obligations.EnablesChangeOnlyAsStated : Prop :=
  (∀ s t, step s = .next t →
    (t.rxie ≠ s.rxie → s.host.phase = .b5 ∧ t.rxie = true) ∧
    (t.txie ≠ s.txie → (s.host.phase = .w4 ∧ t.txie = true) ∨ (s.txh.phase = .y5 ∧ t.txie = false))) ∧
  ∀ s : State,
    (∀ baud, s.handlerActive = false → s.host.phase = .b5 →
      ∃ t, exec (.begin baud) s = .next t ∧ t.rxie = true ∧ t.host.phase = .idle) ∧
    (∀ b, s.handlerActive = false → s.host.phase = .w3 →
      ∃ t u, exec (.write b) s = .next t ∧ exec (.write b) t = .next u ∧ u.txie = true ∧
        u.host.phase = .idle) ∧
    (s.txh.phase = .y1 → s.tx.empty = true →
      ∃ t u, exec .txisr s = .next t ∧ exec .txisr t = .next u ∧ u.txie = false ∧ u.txh.phase = .idle)

/-- R42, R44: a pending bit is cleared only by the handler's access to its data register: `RXIFG` by the
read at `X1`, `TXIFG` by the write at `Y4`; however often else the machine steps, it stays. -/
def Obligations.PendingBitsClearedOnlyByAccess : Prop :=
  ∀ s t, step s = .next t →
    (s.periph.rxifg = true → t.periph.rxifg = false → s.rxh.phase = .x1) ∧
    (s.periph.txifg = true → t.periph.txifg = false →
      s.txh.phase = .y4 ∧ t.ghost.txLog = s.ghost.txLog ++ [t.periph.txbuf])

/-- No operation reads a ghost value (R50) or a past response: with others in their place, the same operation
does the same to everything else. The clause on past responses is about the list `replies`, which is the
model's choice (assumption log, entry 14); R272 only says that the responses are read back. -/
def Obligations.GhostValuesAreNeverRead : Prop :=
  ∀ i s g r,
    (∀ t, exec i s = .next t →
      ∃ g' r', exec i { s with ghost := g, replies := r } = .next { t with ghost := g', replies := r' }) ∧
    (∀ q, exec i s = .refused q → exec i { s with ghost := g, replies := r } = .refused q)

/-- R71: the receive side does not depend on the transmit buffer: with another `tx` in its place,
`RXISR`, `AVAILABLE`, `PEEK` and `READ` do the same. -/
def Obligations.ReceiveSideIgnoresTransmitBuffer : Prop :=
  ∀ i s t q, i = .rxisr ∨ i = .available ∨ i = .peek ∨ i = .read → exec i s = .next t →
    exec i { s with tx := q } = .next { t with tx := q }

/-- R71, the reverse: the transmit side does not depend on the receive buffer: with another `rx` in its
place, `TXISR`, `WRITE`, `FLUSH` and `BEGIN` do the same. -/
def Obligations.TransmitSideIgnoresReceiveBuffer : Prop :=
  ∀ i s t q, i = .txisr ∨ (∃ b, i = .write b) ∨ i = .flush ∨ (∃ baud, i = .begin baud) →
    exec i s = .next t → exec i { s with rx := q } = .next { t with rx := q }

/-- When a run is over as R272 (decision D22) defines it, no turn of the host or of a handler changes
anything but the script. -/
def Obligations.FinishedRunIsQuiet : Prop :=
  ∀ s u sch, runOver s = true → s.schedule = u :: sch →
    u = .host ∨ (∃ ev, u = .handler ev) → step s = .next { s with schedule := sch }

/-! ## Liveness, on a script of turns -/

/-- An instance of what R270 marks as derived: a `FLUSH` that spins over `n` queued bytes responds once
the peripheral has become ready and `TXISR` has run `n` times; `tx` is then empty, and the bytes that
were queued have been handed over, in order. -/
def Obligations.FlushRespondsAfterDrain : Prop :=
  ∀ s rest, MachineInv s → s.host.phase = .f1 → s.handlerActive = false →
    s.schedule = drainScript s.tx.count ++ .host :: rest →
    ∃ t, Host.Core.run Sys2Proof.core (6 * s.tx.count + 1) s = .next t ∧
      t.host.phase = .idle ∧ t.tx.empty = true ∧ t.schedule = rest ∧
      t.replies = s.replies ++ [{ op := .flush, word := none }] ∧
      t.ghost.txLog = s.ghost.txLog ++ live .tx s

/-- An instance of what R270 marks as derived: a `WRITE` that spins on a full `tx` responds once `TXISR`
has freed one slot: the oldest byte has been handed over and the byte written is the newest one queued. -/
def Obligations.WriteRespondsAfterOneSlotIsFreed : Prop :=
  ∀ s rest, MachineInv s → s.host.phase = .w1 → s.handlerActive = false → s.tx.full = true →
    s.schedule = drainOne ++ .host :: .host :: .host :: .host :: rest →
    ∃ t, Host.Core.run Sys2Proof.core 10 s = .next t ∧
      t.host.phase = .idle ∧ t.txie = true ∧ t.schedule = rest ∧
      t.replies = s.replies ++ [{ op := .write, word := some 1#16 }] ∧
      t.ghost.txLog = s.ghost.txLog ++ (live .tx s).take 1 ∧
      live .tx t = (live .tx s).drop 1 ++ [byteOfArg s.host.arg]

/-- R271, R172 (b): with a stalled peripheral a `WRITE` on a full `tx` never responds. Whoever takes a
turn other than `PE_TXE`, it is still at `W1`, `tx` is as it was and nothing has been handed over or
answered; so it is after any script without `PE_TXE`, however long. Where only `HOST` gets turns,
nothing but its latch and the script has changed. -/
def Obligations.WriteHangsOnStalledPeripheral : Prop :=
  (∀ s, WriteStalled s → s.nextTurn.1 ≠ .peTxe →
    ∃ t, step s = .next t ∧ WriteStalled t ∧ t.tx = s.tx ∧ t.txie = s.txie ∧ t.replies = s.replies ∧
      t.ghost.txLog = s.ghost.txLog) ∧
  (∀ s turns rest, WriteStalled s → .peTxe ∉ turns → s.schedule = turns ++ rest →
    ∃ t, Host.Core.run Sys2Proof.core turns.length s = .next t ∧ WriteStalled t ∧ t.tx = s.tx ∧
      t.txie = s.txie ∧ t.replies = s.replies ∧ t.ghost.txLog = s.ghost.txLog ∧ t.schedule = rest) ∧
  (∀ s n rest, PhaseOk s → s.host.phase = .w1 → s.handlerActive = false → s.tx.full = true →
    s.schedule = List.replicate n .host ++ rest →
    ∃ nxt, Host.Core.run Sys2Proof.core n s =
      .next { s with schedule := rest, host := { s.host with nxt := nxt } })
end

