-- ==== Sys2Proof/Laws/State.lean ====
section
/-! SUPPORT. What each operation of Machine/Ops.lean does to each field of the state: one lemma per field
per operation, so that no later proof unfolds a record update. -/

namespace Sys2Proof.Machine

variable (s : State)

/-! ### `setTxie` -/

@[simp] theorem setTxie_rx (b : Bool) : (setTxie b s).rx = s.rx := rfl
@[simp] theorem setTxie_tx (b : Bool) : (setTxie b s).tx = s.tx := rfl
@[simp] theorem setTxie_rxie (b : Bool) : (setTxie b s).rxie = s.rxie := rfl
@[simp] theorem setTxie_txie (b : Bool) : (setTxie b s).txie = b := rfl
@[simp] theorem setTxie_periph (b : Bool) : (setTxie b s).periph = s.periph := rfl
@[simp] theorem setTxie_host (b : Bool) : (setTxie b s).host = s.host := rfl
@[simp] theorem setTxie_rxh (b : Bool) : (setTxie b s).rxh = s.rxh := rfl
@[simp] theorem setTxie_txh (b : Bool) : (setTxie b s).txh = s.txh := rfl
@[simp] theorem setTxie_ghost (b : Bool) : (setTxie b s).ghost = s.ghost := rfl
@[simp] theorem setTxie_replies (b : Bool) : (setTxie b s).replies = s.replies := rfl
@[simp] theorem setTxie_program (b : Bool) : (setTxie b s).program = s.program := rfl
@[simp] theorem setTxie_schedule (b : Bool) : (setTxie b s).schedule = s.schedule := rfl
@[simp] theorem setTxie_draws (b : Bool) : (setTxie b s).draws = s.draws := rfl
@[simp] theorem setTxie_fifo (b : Bool) (f : FifoId) : (setTxie b s).fifo f = s.fifo f := by cases f <;> rfl
@[simp] theorem setTxie_memRead (b : Bool) (f : FifoId) (i : Ptr) :
    memRead f i (setTxie b s) = memRead f i s := by simp [memRead]

/-! ### `setRxie` -/

@[simp] theorem setRxie_rx (b : Bool) : (setRxie b s).rx = s.rx := rfl
@[simp] theorem setRxie_tx (b : Bool) : (setRxie b s).tx = s.tx := rfl
@[simp] theorem setRxie_rxie (b : Bool) : (setRxie b s).rxie = b := rfl
@[simp] theorem setRxie_txie (b : Bool) : (setRxie b s).txie = s.txie := rfl
@[simp] theorem setRxie_periph (b : Bool) : (setRxie b s).periph = s.periph := rfl
@[simp] theorem setRxie_host (b : Bool) : (setRxie b s).host = s.host := rfl
@[simp] theorem setRxie_rxh (b : Bool) : (setRxie b s).rxh = s.rxh := rfl
@[simp] theorem setRxie_txh (b : Bool) : (setRxie b s).txh = s.txh := rfl
@[simp] theorem setRxie_ghost (b : Bool) : (setRxie b s).ghost = s.ghost := rfl
@[simp] theorem setRxie_replies (b : Bool) : (setRxie b s).replies = s.replies := rfl
@[simp] theorem setRxie_program (b : Bool) : (setRxie b s).program = s.program := rfl
@[simp] theorem setRxie_schedule (b : Bool) : (setRxie b s).schedule = s.schedule := rfl
@[simp] theorem setRxie_draws (b : Bool) : (setRxie b s).draws = s.draws := rfl
@[simp] theorem setRxie_fifo (b : Bool) (f : FifoId) : (setRxie b s).fifo f = s.fifo f := by cases f <;> rfl
@[simp] theorem setRxie_memRead (b : Bool) (f : FifoId) (i : Ptr) :
    memRead f i (setRxie b s) = memRead f i s := by simp [memRead]

/-! ### `periphReadAck` -/

@[simp] theorem periphReadAck_rx : (periphReadAck s).rx = s.rx := rfl
@[simp] theorem periphReadAck_tx : (periphReadAck s).tx = s.tx := rfl
@[simp] theorem periphReadAck_rxie : (periphReadAck s).rxie = s.rxie := rfl
@[simp] theorem periphReadAck_txie : (periphReadAck s).txie = s.txie := rfl
@[simp] theorem periphReadAck_periph : (periphReadAck s).periph = { s.periph with rxifg := false } := rfl
@[simp] theorem periphReadAck_host : (periphReadAck s).host = s.host := rfl
@[simp] theorem periphReadAck_rxh : (periphReadAck s).rxh = s.rxh := rfl
@[simp] theorem periphReadAck_txh : (periphReadAck s).txh = s.txh := rfl
@[simp] theorem periphReadAck_ghost : (periphReadAck s).ghost = s.ghost := rfl
@[simp] theorem periphReadAck_replies : (periphReadAck s).replies = s.replies := rfl
@[simp] theorem periphReadAck_program : (periphReadAck s).program = s.program := rfl
@[simp] theorem periphReadAck_schedule : (periphReadAck s).schedule = s.schedule := rfl
@[simp] theorem periphReadAck_draws : (periphReadAck s).draws = s.draws := rfl
@[simp] theorem periphReadAck_fifo (f : FifoId) : (periphReadAck s).fifo f = s.fifo f := by cases f <;> rfl
@[simp] theorem periphReadAck_memRead (f : FifoId) (i : Ptr) :
    memRead f i (periphReadAck s) = memRead f i s := by simp [memRead]

/-! ### `periphWrite` -/

@[simp] theorem periphWrite_rx (v : Byte) : (periphWrite v s).rx = s.rx := rfl
@[simp] theorem periphWrite_tx (v : Byte) : (periphWrite v s).tx = s.tx := rfl
@[simp] theorem periphWrite_rxie (v : Byte) : (periphWrite v s).rxie = s.rxie := rfl
@[simp] theorem periphWrite_txie (v : Byte) : (periphWrite v s).txie = s.txie := rfl
@[simp] theorem periphWrite_periph (v : Byte) : (periphWrite v s).periph = { s.periph with txbuf := v, txifg := false } := rfl
@[simp] theorem periphWrite_host (v : Byte) : (periphWrite v s).host = s.host := rfl
@[simp] theorem periphWrite_rxh (v : Byte) : (periphWrite v s).rxh = s.rxh := rfl
@[simp] theorem periphWrite_txh (v : Byte) : (periphWrite v s).txh = s.txh := rfl
@[simp] theorem periphWrite_ghost (v : Byte) : (periphWrite v s).ghost = { s.ghost with txLog := s.ghost.txLog ++ [v] } := rfl
@[simp] theorem periphWrite_replies (v : Byte) : (periphWrite v s).replies = s.replies := rfl
@[simp] theorem periphWrite_program (v : Byte) : (periphWrite v s).program = s.program := rfl
@[simp] theorem periphWrite_schedule (v : Byte) : (periphWrite v s).schedule = s.schedule := rfl
@[simp] theorem periphWrite_draws (v : Byte) : (periphWrite v s).draws = s.draws := rfl
@[simp] theorem periphWrite_fifo (v : Byte) (f : FifoId) : (periphWrite v s).fifo f = s.fifo f := by cases f <;> rfl
@[simp] theorem periphWrite_memRead (v : Byte) (f : FifoId) (i : Ptr) :
    memRead f i (periphWrite v s) = memRead f i s := by simp [memRead]

/-! ### `setSwrst` -/

@[simp] theorem setSwrst_rx (b : Bool) : (setSwrst b s).rx = s.rx := rfl
@[simp] theorem setSwrst_tx (b : Bool) : (setSwrst b s).tx = s.tx := rfl
@[simp] theorem setSwrst_rxie (b : Bool) : (setSwrst b s).rxie = s.rxie := rfl
@[simp] theorem setSwrst_txie (b : Bool) : (setSwrst b s).txie = s.txie := rfl
@[simp] theorem setSwrst_periph (b : Bool) : (setSwrst b s).periph = { s.periph with swrst := b } := rfl
@[simp] theorem setSwrst_host (b : Bool) : (setSwrst b s).host = s.host := rfl
@[simp] theorem setSwrst_rxh (b : Bool) : (setSwrst b s).rxh = s.rxh := rfl
@[simp] theorem setSwrst_txh (b : Bool) : (setSwrst b s).txh = s.txh := rfl
@[simp] theorem setSwrst_ghost (b : Bool) : (setSwrst b s).ghost = s.ghost := rfl
@[simp] theorem setSwrst_replies (b : Bool) : (setSwrst b s).replies = s.replies := rfl
@[simp] theorem setSwrst_program (b : Bool) : (setSwrst b s).program = s.program := rfl
@[simp] theorem setSwrst_schedule (b : Bool) : (setSwrst b s).schedule = s.schedule := rfl
@[simp] theorem setSwrst_draws (b : Bool) : (setSwrst b s).draws = s.draws := rfl
@[simp] theorem setSwrst_fifo (b : Bool) (f : FifoId) : (setSwrst b s).fifo f = s.fifo f := by cases f <;> rfl
@[simp] theorem setSwrst_memRead (b : Bool) (f : FifoId) (i : Ptr) :
    memRead f i (setSwrst b s) = memRead f i s := by simp [memRead]

/-! ### `programLine` -/

@[simp] theorem programLine_rx (c : LineConfig) : (programLine c s).rx = s.rx := rfl
@[simp] theorem programLine_tx (c : LineConfig) : (programLine c s).tx = s.tx := rfl
@[simp] theorem programLine_rxie (c : LineConfig) : (programLine c s).rxie = s.rxie := rfl
@[simp] theorem programLine_txie (c : LineConfig) : (programLine c s).txie = s.txie := rfl
@[simp] theorem programLine_periph (c : LineConfig) : (programLine c s).periph = { s.periph with brdiv := c.div, mod := c.mod, os16 := c.os } := rfl
@[simp] theorem programLine_host (c : LineConfig) : (programLine c s).host = s.host := rfl
@[simp] theorem programLine_rxh (c : LineConfig) : (programLine c s).rxh = s.rxh := rfl
@[simp] theorem programLine_txh (c : LineConfig) : (programLine c s).txh = s.txh := rfl
@[simp] theorem programLine_ghost (c : LineConfig) : (programLine c s).ghost = s.ghost := rfl
@[simp] theorem programLine_replies (c : LineConfig) : (programLine c s).replies = s.replies := rfl
@[simp] theorem programLine_program (c : LineConfig) : (programLine c s).program = s.program := rfl
@[simp] theorem programLine_schedule (c : LineConfig) : (programLine c s).schedule = s.schedule := rfl
@[simp] theorem programLine_draws (c : LineConfig) : (programLine c s).draws = s.draws := rfl
@[simp] theorem programLine_fifo (c : LineConfig) (f : FifoId) : (programLine c s).fifo f = s.fifo f := by cases f <;> rfl
@[simp] theorem programLine_memRead (c : LineConfig) (f : FifoId) (i : Ptr) :
    memRead f i (programLine c s) = memRead f i s := by simp [memRead]

/-! ### `peRx` -/

@[simp] theorem peRx_rx (b : Byte) : (peRx b s).rx = s.rx := rfl
@[simp] theorem peRx_tx (b : Byte) : (peRx b s).tx = s.tx := rfl
@[simp] theorem peRx_rxie (b : Byte) : (peRx b s).rxie = s.rxie := rfl
@[simp] theorem peRx_txie (b : Byte) : (peRx b s).txie = s.txie := rfl
@[simp] theorem peRx_periph (b : Byte) : (peRx b s).periph = { s.periph with rxbuf := b, rxifg := true } := rfl
@[simp] theorem peRx_host (b : Byte) : (peRx b s).host = s.host := rfl
@[simp] theorem peRx_rxh (b : Byte) : (peRx b s).rxh = s.rxh := rfl
@[simp] theorem peRx_txh (b : Byte) : (peRx b s).txh = s.txh := rfl
@[simp] theorem peRx_ghost (b : Byte) : (peRx b s).ghost = s.ghost := rfl
@[simp] theorem peRx_replies (b : Byte) : (peRx b s).replies = s.replies := rfl
@[simp] theorem peRx_program (b : Byte) : (peRx b s).program = s.program := rfl
@[simp] theorem peRx_schedule (b : Byte) : (peRx b s).schedule = s.schedule := rfl
@[simp] theorem peRx_draws (b : Byte) : (peRx b s).draws = s.draws := rfl
@[simp] theorem peRx_fifo (b : Byte) (f : FifoId) : (peRx b s).fifo f = s.fifo f := by cases f <;> rfl
@[simp] theorem peRx_memRead (b : Byte) (f : FifoId) (i : Ptr) :
    memRead f i (peRx b s) = memRead f i s := by simp [memRead]

/-! ### `hostGoto` -/

@[simp] theorem hostGoto_rx (p : HPhase) : (hostGoto p s).rx = s.rx := rfl
@[simp] theorem hostGoto_tx (p : HPhase) : (hostGoto p s).tx = s.tx := rfl
@[simp] theorem hostGoto_rxie (p : HPhase) : (hostGoto p s).rxie = s.rxie := rfl
@[simp] theorem hostGoto_txie (p : HPhase) : (hostGoto p s).txie = s.txie := rfl
@[simp] theorem hostGoto_periph (p : HPhase) : (hostGoto p s).periph = s.periph := rfl
@[simp] theorem hostGoto_host (p : HPhase) : (hostGoto p s).host = { s.host with phase := p } := rfl
@[simp] theorem hostGoto_rxh (p : HPhase) : (hostGoto p s).rxh = s.rxh := rfl
@[simp] theorem hostGoto_txh (p : HPhase) : (hostGoto p s).txh = s.txh := rfl
@[simp] theorem hostGoto_ghost (p : HPhase) : (hostGoto p s).ghost = s.ghost := rfl
@[simp] theorem hostGoto_replies (p : HPhase) : (hostGoto p s).replies = s.replies := rfl
@[simp] theorem hostGoto_program (p : HPhase) : (hostGoto p s).program = s.program := rfl
@[simp] theorem hostGoto_schedule (p : HPhase) : (hostGoto p s).schedule = s.schedule := rfl
@[simp] theorem hostGoto_draws (p : HPhase) : (hostGoto p s).draws = s.draws := rfl
@[simp] theorem hostGoto_fifo (p : HPhase) (f : FifoId) : (hostGoto p s).fifo f = s.fifo f := by cases f <;> rfl
@[simp] theorem hostGoto_memRead (p : HPhase) (f : FifoId) (i : Ptr) :
    memRead f i (hostGoto p s) = memRead f i s := by simp [memRead]

/-! ### `rxhGoto` -/

@[simp] theorem rxhGoto_rx (p : RPhase) : (rxhGoto p s).rx = s.rx := rfl
@[simp] theorem rxhGoto_tx (p : RPhase) : (rxhGoto p s).tx = s.tx := rfl
@[simp] theorem rxhGoto_rxie (p : RPhase) : (rxhGoto p s).rxie = s.rxie := rfl
@[simp] theorem rxhGoto_txie (p : RPhase) : (rxhGoto p s).txie = s.txie := rfl
@[simp] theorem rxhGoto_periph (p : RPhase) : (rxhGoto p s).periph = s.periph := rfl
@[simp] theorem rxhGoto_host (p : RPhase) : (rxhGoto p s).host = s.host := rfl
@[simp] theorem rxhGoto_rxh (p : RPhase) : (rxhGoto p s).rxh = { s.rxh with phase := p } := rfl
@[simp] theorem rxhGoto_txh (p : RPhase) : (rxhGoto p s).txh = s.txh := rfl
@[simp] theorem rxhGoto_ghost (p : RPhase) : (rxhGoto p s).ghost = s.ghost := rfl
@[simp] theorem rxhGoto_replies (p : RPhase) : (rxhGoto p s).replies = s.replies := rfl
@[simp] theorem rxhGoto_program (p : RPhase) : (rxhGoto p s).program = s.program := rfl
@[simp] theorem rxhGoto_schedule (p : RPhase) : (rxhGoto p s).schedule = s.schedule := rfl
@[simp] theorem rxhGoto_draws (p : RPhase) : (rxhGoto p s).draws = s.draws := rfl
@[simp] theorem rxhGoto_fifo (p : RPhase) (f : FifoId) : (rxhGoto p s).fifo f = s.fifo f := by cases f <;> rfl
@[simp] theorem rxhGoto_memRead (p : RPhase) (f : FifoId) (i : Ptr) :
    memRead f i (rxhGoto p s) = memRead f i s := by simp [memRead]

/-! ### `txhGoto` -/

@[simp] theorem txhGoto_rx (p : TPhase) : (txhGoto p s).rx = s.rx := rfl
@[simp] theorem txhGoto_tx (p : TPhase) : (txhGoto p s).tx = s.tx := rfl
@[simp] theorem txhGoto_rxie (p : TPhase) : (txhGoto p s).rxie = s.rxie := rfl
@[simp] theorem txhGoto_txie (p : TPhase) : (txhGoto p s).txie = s.txie := rfl
@[simp] theorem txhGoto_periph (p : TPhase) : (txhGoto p s).periph = s.periph := rfl
@[simp] theorem txhGoto_host (p : TPhase) : (txhGoto p s).host = s.host := rfl
@[simp] theorem txhGoto_rxh (p : TPhase) : (txhGoto p s).rxh = s.rxh := rfl
@[simp] theorem txhGoto_txh (p : TPhase) : (txhGoto p s).txh = { s.txh with phase := p } := rfl
@[simp] theorem txhGoto_ghost (p : TPhase) : (txhGoto p s).ghost = s.ghost := rfl
@[simp] theorem txhGoto_replies (p : TPhase) : (txhGoto p s).replies = s.replies := rfl
@[simp] theorem txhGoto_program (p : TPhase) : (txhGoto p s).program = s.program := rfl
@[simp] theorem txhGoto_schedule (p : TPhase) : (txhGoto p s).schedule = s.schedule := rfl
@[simp] theorem txhGoto_draws (p : TPhase) : (txhGoto p s).draws = s.draws := rfl
@[simp] theorem txhGoto_fifo (p : TPhase) (f : FifoId) : (txhGoto p s).fifo f = s.fifo f := by cases f <;> rfl
@[simp] theorem txhGoto_memRead (p : TPhase) (f : FifoId) (i : Ptr) :
    memRead f i (txhGoto p s) = memRead f i s := by simp [memRead]

/-! ### `latchNxt` -/

@[simp] theorem latchNxt_rx (v : Ptr) : (latchNxt v s).rx = s.rx := rfl
@[simp] theorem latchNxt_tx (v : Ptr) : (latchNxt v s).tx = s.tx := rfl
@[simp] theorem latchNxt_rxie (v : Ptr) : (latchNxt v s).rxie = s.rxie := rfl
@[simp] theorem latchNxt_txie (v : Ptr) : (latchNxt v s).txie = s.txie := rfl
@[simp] theorem latchNxt_periph (v : Ptr) : (latchNxt v s).periph = s.periph := rfl
@[simp] theorem latchNxt_host (v : Ptr) : (latchNxt v s).host = { s.host with nxt := v } := rfl
@[simp] theorem latchNxt_rxh (v : Ptr) : (latchNxt v s).rxh = s.rxh := rfl
@[simp] theorem latchNxt_txh (v : Ptr) : (latchNxt v s).txh = s.txh := rfl
@[simp] theorem latchNxt_ghost (v : Ptr) : (latchNxt v s).ghost = s.ghost := rfl
@[simp] theorem latchNxt_replies (v : Ptr) : (latchNxt v s).replies = s.replies := rfl
@[simp] theorem latchNxt_program (v : Ptr) : (latchNxt v s).program = s.program := rfl
@[simp] theorem latchNxt_schedule (v : Ptr) : (latchNxt v s).schedule = s.schedule := rfl
@[simp] theorem latchNxt_draws (v : Ptr) : (latchNxt v s).draws = s.draws := rfl
@[simp] theorem latchNxt_fifo (v : Ptr) (f : FifoId) : (latchNxt v s).fifo f = s.fifo f := by cases f <;> rfl
@[simp] theorem latchNxt_memRead (v : Ptr) (f : FifoId) (i : Ptr) :
    memRead f i (latchNxt v s) = memRead f i s := by simp [memRead]

/-! ### `latchPtr` -/

@[simp] theorem latchPtr_rx (v : Ptr) : (latchPtr v s).rx = s.rx := rfl
@[simp] theorem latchPtr_tx (v : Ptr) : (latchPtr v s).tx = s.tx := rfl
@[simp] theorem latchPtr_rxie (v : Ptr) : (latchPtr v s).rxie = s.rxie := rfl
@[simp] theorem latchPtr_txie (v : Ptr) : (latchPtr v s).txie = s.txie := rfl
@[simp] theorem latchPtr_periph (v : Ptr) : (latchPtr v s).periph = s.periph := rfl
@[simp] theorem latchPtr_host (v : Ptr) : (latchPtr v s).host = { s.host with ptr := v } := rfl
@[simp] theorem latchPtr_rxh (v : Ptr) : (latchPtr v s).rxh = s.rxh := rfl
@[simp] theorem latchPtr_txh (v : Ptr) : (latchPtr v s).txh = s.txh := rfl
@[simp] theorem latchPtr_ghost (v : Ptr) : (latchPtr v s).ghost = s.ghost := rfl
@[simp] theorem latchPtr_replies (v : Ptr) : (latchPtr v s).replies = s.replies := rfl
@[simp] theorem latchPtr_program (v : Ptr) : (latchPtr v s).program = s.program := rfl
@[simp] theorem latchPtr_schedule (v : Ptr) : (latchPtr v s).schedule = s.schedule := rfl
@[simp] theorem latchPtr_draws (v : Ptr) : (latchPtr v s).draws = s.draws := rfl
@[simp] theorem latchPtr_fifo (v : Ptr) (f : FifoId) : (latchPtr v s).fifo f = s.fifo f := by cases f <;> rfl
@[simp] theorem latchPtr_memRead (v : Ptr) (f : FifoId) (i : Ptr) :
    memRead f i (latchPtr v s) = memRead f i s := by simp [memRead]

/-! ### `latchByte` -/

@[simp] theorem latchByte_rx (v : Byte) : (latchByte v s).rx = s.rx := rfl
@[simp] theorem latchByte_tx (v : Byte) : (latchByte v s).tx = s.tx := rfl
@[simp] theorem latchByte_rxie (v : Byte) : (latchByte v s).rxie = s.rxie := rfl
@[simp] theorem latchByte_txie (v : Byte) : (latchByte v s).txie = s.txie := rfl
@[simp] theorem latchByte_periph (v : Byte) : (latchByte v s).periph = s.periph := rfl
@[simp] theorem latchByte_host (v : Byte) : (latchByte v s).host = { s.host with byte := v } := rfl
@[simp] theorem latchByte_rxh (v : Byte) : (latchByte v s).rxh = s.rxh := rfl
@[simp] theorem latchByte_txh (v : Byte) : (latchByte v s).txh = s.txh := rfl
@[simp] theorem latchByte_ghost (v : Byte) : (latchByte v s).ghost = s.ghost := rfl
@[simp] theorem latchByte_replies (v : Byte) : (latchByte v s).replies = s.replies := rfl
@[simp] theorem latchByte_program (v : Byte) : (latchByte v s).program = s.program := rfl
@[simp] theorem latchByte_schedule (v : Byte) : (latchByte v s).schedule = s.schedule := rfl
@[simp] theorem latchByte_draws (v : Byte) : (latchByte v s).draws = s.draws := rfl
@[simp] theorem latchByte_fifo (v : Byte) (f : FifoId) : (latchByte v s).fifo f = s.fifo f := by cases f <;> rfl
@[simp] theorem latchByte_memRead (v : Byte) (f : FifoId) (i : Ptr) :
    memRead f i (latchByte v s) = memRead f i s := by simp [memRead]

/-! ### `latchLine` -/

@[simp] theorem latchLine_rx (c : LineConfig) : (latchLine c s).rx = s.rx := rfl
@[simp] theorem latchLine_tx (c : LineConfig) : (latchLine c s).tx = s.tx := rfl
@[simp] theorem latchLine_rxie (c : LineConfig) : (latchLine c s).rxie = s.rxie := rfl
@[simp] theorem latchLine_txie (c : LineConfig) : (latchLine c s).txie = s.txie := rfl
@[simp] theorem latchLine_periph (c : LineConfig) : (latchLine c s).periph = s.periph := rfl
@[simp] theorem latchLine_host (c : LineConfig) : (latchLine c s).host = { s.host with line := c } := rfl
@[simp] theorem latchLine_rxh (c : LineConfig) : (latchLine c s).rxh = s.rxh := rfl
@[simp] theorem latchLine_txh (c : LineConfig) : (latchLine c s).txh = s.txh := rfl
@[simp] theorem latchLine_ghost (c : LineConfig) : (latchLine c s).ghost = s.ghost := rfl
@[simp] theorem latchLine_replies (c : LineConfig) : (latchLine c s).replies = s.replies := rfl
@[simp] theorem latchLine_program (c : LineConfig) : (latchLine c s).program = s.program := rfl
@[simp] theorem latchLine_schedule (c : LineConfig) : (latchLine c s).schedule = s.schedule := rfl
@[simp] theorem latchLine_draws (c : LineConfig) : (latchLine c s).draws = s.draws := rfl
@[simp] theorem latchLine_fifo (c : LineConfig) (f : FifoId) : (latchLine c s).fifo f = s.fifo f := by cases f <;> rfl
@[simp] theorem latchLine_memRead (c : LineConfig) (f : FifoId) (i : Ptr) :
    memRead f i (latchLine c s) = memRead f i s := by simp [memRead]

/-! ### `rxhLatchByte` -/

@[simp] theorem rxhLatchByte_rx (v : Byte) : (rxhLatchByte v s).rx = s.rx := rfl
@[simp] theorem rxhLatchByte_tx (v : Byte) : (rxhLatchByte v s).tx = s.tx := rfl
@[simp] theorem rxhLatchByte_rxie (v : Byte) : (rxhLatchByte v s).rxie = s.rxie := rfl
@[simp] theorem rxhLatchByte_txie (v : Byte) : (rxhLatchByte v s).txie = s.txie := rfl
@[simp] theorem rxhLatchByte_periph (v : Byte) : (rxhLatchByte v s).periph = s.periph := rfl
@[simp] theorem rxhLatchByte_host (v : Byte) : (rxhLatchByte v s).host = s.host := rfl
@[simp] theorem rxhLatchByte_rxh (v : Byte) : (rxhLatchByte v s).rxh = { s.rxh with byte := v } := rfl
@[simp] theorem rxhLatchByte_txh (v : Byte) : (rxhLatchByte v s).txh = s.txh := rfl
@[simp] theorem rxhLatchByte_ghost (v : Byte) : (rxhLatchByte v s).ghost = s.ghost := rfl
@[simp] theorem rxhLatchByte_replies (v : Byte) : (rxhLatchByte v s).replies = s.replies := rfl
@[simp] theorem rxhLatchByte_program (v : Byte) : (rxhLatchByte v s).program = s.program := rfl
@[simp] theorem rxhLatchByte_schedule (v : Byte) : (rxhLatchByte v s).schedule = s.schedule := rfl
@[simp] theorem rxhLatchByte_draws (v : Byte) : (rxhLatchByte v s).draws = s.draws := rfl
@[simp] theorem rxhLatchByte_fifo (v : Byte) (f : FifoId) : (rxhLatchByte v s).fifo f = s.fifo f := by cases f <;> rfl
@[simp] theorem rxhLatchByte_memRead (v : Byte) (f : FifoId) (i : Ptr) :
    memRead f i (rxhLatchByte v s) = memRead f i s := by simp [memRead]

/-! ### `rxhLatchNxt` -/

@[simp] theorem rxhLatchNxt_rx (v : Ptr) : (rxhLatchNxt v s).rx = s.rx := rfl
@[simp] theorem rxhLatchNxt_tx (v : Ptr) : (rxhLatchNxt v s).tx = s.tx := rfl
@[simp] theorem rxhLatchNxt_rxie (v : Ptr) : (rxhLatchNxt v s).rxie = s.rxie := rfl
@[simp] theorem rxhLatchNxt_txie (v : Ptr) : (rxhLatchNxt v s).txie = s.txie := rfl
@[simp] theorem rxhLatchNxt_periph (v : Ptr) : (rxhLatchNxt v s).periph = s.periph := rfl
@[simp] theorem rxhLatchNxt_host (v : Ptr) : (rxhLatchNxt v s).host = s.host := rfl
@[simp] theorem rxhLatchNxt_rxh (v : Ptr) : (rxhLatchNxt v s).rxh = { s.rxh with nxt := v } := rfl
@[simp] theorem rxhLatchNxt_txh (v : Ptr) : (rxhLatchNxt v s).txh = s.txh := rfl
@[simp] theorem rxhLatchNxt_ghost (v : Ptr) : (rxhLatchNxt v s).ghost = s.ghost := rfl
@[simp] theorem rxhLatchNxt_replies (v : Ptr) : (rxhLatchNxt v s).replies = s.replies := rfl
@[simp] theorem rxhLatchNxt_program (v : Ptr) : (rxhLatchNxt v s).program = s.program := rfl
@[simp] theorem rxhLatchNxt_schedule (v : Ptr) : (rxhLatchNxt v s).schedule = s.schedule := rfl
@[simp] theorem rxhLatchNxt_draws (v : Ptr) : (rxhLatchNxt v s).draws = s.draws := rfl
@[simp] theorem rxhLatchNxt_fifo (v : Ptr) (f : FifoId) : (rxhLatchNxt v s).fifo f = s.fifo f := by cases f <;> rfl
@[simp] theorem rxhLatchNxt_memRead (v : Ptr) (f : FifoId) (i : Ptr) :
    memRead f i (rxhLatchNxt v s) = memRead f i s := by simp [memRead]

/-! ### `txhLatchByte` -/

@[simp] theorem txhLatchByte_rx (v : Byte) : (txhLatchByte v s).rx = s.rx := rfl
@[simp] theorem txhLatchByte_tx (v : Byte) : (txhLatchByte v s).tx = s.tx := rfl
@[simp] theorem txhLatchByte_rxie (v : Byte) : (txhLatchByte v s).rxie = s.rxie := rfl
@[simp] theorem txhLatchByte_txie (v : Byte) : (txhLatchByte v s).txie = s.txie := rfl
@[simp] theorem txhLatchByte_periph (v : Byte) : (txhLatchByte v s).periph = s.periph := rfl
@[simp] theorem txhLatchByte_host (v : Byte) : (txhLatchByte v s).host = s.host := rfl
@[simp] theorem txhLatchByte_rxh (v : Byte) : (txhLatchByte v s).rxh = s.rxh := rfl
@[simp] theorem txhLatchByte_txh (v : Byte) : (txhLatchByte v s).txh = { s.txh with byte := v } := rfl
@[simp] theorem txhLatchByte_ghost (v : Byte) : (txhLatchByte v s).ghost = s.ghost := rfl
@[simp] theorem txhLatchByte_replies (v : Byte) : (txhLatchByte v s).replies = s.replies := rfl
@[simp] theorem txhLatchByte_program (v : Byte) : (txhLatchByte v s).program = s.program := rfl
@[simp] theorem txhLatchByte_schedule (v : Byte) : (txhLatchByte v s).schedule = s.schedule := rfl
@[simp] theorem txhLatchByte_draws (v : Byte) : (txhLatchByte v s).draws = s.draws := rfl
@[simp] theorem txhLatchByte_fifo (v : Byte) (f : FifoId) : (txhLatchByte v s).fifo f = s.fifo f := by cases f <;> rfl
@[simp] theorem txhLatchByte_memRead (v : Byte) (f : FifoId) (i : Ptr) :
    memRead f i (txhLatchByte v s) = memRead f i s := by simp [memRead]

/-! ### `accept` -/

@[simp] theorem accept_rx (op : HostOp) (arg : Arg) (p : HPhase) : (accept op arg p s).rx = s.rx := rfl
@[simp] theorem accept_tx (op : HostOp) (arg : Arg) (p : HPhase) : (accept op arg p s).tx = s.tx := rfl
@[simp] theorem accept_rxie (op : HostOp) (arg : Arg) (p : HPhase) : (accept op arg p s).rxie = s.rxie := rfl
@[simp] theorem accept_txie (op : HostOp) (arg : Arg) (p : HPhase) : (accept op arg p s).txie = s.txie := rfl
@[simp] theorem accept_periph (op : HostOp) (arg : Arg) (p : HPhase) : (accept op arg p s).periph = s.periph := rfl
@[simp] theorem accept_host (op : HostOp) (arg : Arg) (p : HPhase) : (accept op arg p s).host = { s.host with op := op, arg := arg, phase := p } := rfl
@[simp] theorem accept_rxh (op : HostOp) (arg : Arg) (p : HPhase) : (accept op arg p s).rxh = s.rxh := rfl
@[simp] theorem accept_txh (op : HostOp) (arg : Arg) (p : HPhase) : (accept op arg p s).txh = s.txh := rfl
@[simp] theorem accept_ghost (op : HostOp) (arg : Arg) (p : HPhase) : (accept op arg p s).ghost = s.ghost := rfl
@[simp] theorem accept_replies (op : HostOp) (arg : Arg) (p : HPhase) : (accept op arg p s).replies = s.replies := rfl
@[simp] theorem accept_program (op : HostOp) (arg : Arg) (p : HPhase) : (accept op arg p s).program = s.program := rfl
@[simp] theorem accept_schedule (op : HostOp) (arg : Arg) (p : HPhase) : (accept op arg p s).schedule = s.schedule := rfl
@[simp] theorem accept_draws (op : HostOp) (arg : Arg) (p : HPhase) : (accept op arg p s).draws = s.draws := rfl
@[simp] theorem accept_fifo (op : HostOp) (arg : Arg) (p : HPhase) (f : FifoId) : (accept op arg p s).fifo f = s.fifo f := by cases f <;> rfl
@[simp] theorem accept_memRead (op : HostOp) (arg : Arg) (p : HPhase) (f : FifoId) (i : Ptr) :
    memRead f i (accept op arg p s) = memRead f i s := by simp [memRead]

/-! ### `respond` -/

@[simp] theorem respond_rx (w : Option Rsp) : (respond w s).rx = s.rx := rfl
@[simp] theorem respond_tx (w : Option Rsp) : (respond w s).tx = s.tx := rfl
@[simp] theorem respond_rxie (w : Option Rsp) : (respond w s).rxie = s.rxie := rfl
@[simp] theorem respond_txie (w : Option Rsp) : (respond w s).txie = s.txie := rfl
@[simp] theorem respond_periph (w : Option Rsp) : (respond w s).periph = s.periph := rfl
@[simp] theorem respond_host (w : Option Rsp) : (respond w s).host = { s.host with phase := .idle } := rfl
@[simp] theorem respond_rxh (w : Option Rsp) : (respond w s).rxh = s.rxh := rfl
@[simp] theorem respond_txh (w : Option Rsp) : (respond w s).txh = s.txh := rfl
@[simp] theorem respond_ghost (w : Option Rsp) : (respond w s).ghost = s.ghost := rfl
@[simp] theorem respond_replies (w : Option Rsp) : (respond w s).replies = s.replies ++ [{ op := s.host.op, word := w }] := rfl
@[simp] theorem respond_program (w : Option Rsp) : (respond w s).program = s.program := rfl
@[simp] theorem respond_schedule (w : Option Rsp) : (respond w s).schedule = s.schedule := rfl
@[simp] theorem respond_draws (w : Option Rsp) : (respond w s).draws = s.draws := rfl
@[simp] theorem respond_fifo (w : Option Rsp) (f : FifoId) : (respond w s).fifo f = s.fifo f := by cases f <;> rfl
@[simp] theorem respond_memRead (w : Option Rsp) (f : FifoId) (i : Ptr) :
    memRead f i (respond w s) = memRead f i s := by simp [memRead]

/-! ### `doneRxh` -/

@[simp] theorem doneRxh_rx : (doneRxh s).rx = s.rx := rfl
@[simp] theorem doneRxh_tx : (doneRxh s).tx = s.tx := rfl
@[simp] theorem doneRxh_rxie : (doneRxh s).rxie = s.rxie := rfl
@[simp] theorem doneRxh_txie : (doneRxh s).txie = s.txie := rfl
@[simp] theorem doneRxh_periph : (doneRxh s).periph = s.periph := rfl
@[simp] theorem doneRxh_host : (doneRxh s).host = s.host := rfl
@[simp] theorem doneRxh_rxh : (doneRxh s).rxh = { s.rxh with phase := .idle } := rfl
@[simp] theorem doneRxh_txh : (doneRxh s).txh = s.txh := rfl
@[simp] theorem doneRxh_ghost : (doneRxh s).ghost = s.ghost := rfl
@[simp] theorem doneRxh_replies : (doneRxh s).replies = s.replies := rfl
@[simp] theorem doneRxh_program : (doneRxh s).program = s.program := rfl
@[simp] theorem doneRxh_schedule : (doneRxh s).schedule = s.schedule := rfl
@[simp] theorem doneRxh_draws : (doneRxh s).draws = s.draws := rfl
@[simp] theorem doneRxh_fifo (f : FifoId) : (doneRxh s).fifo f = s.fifo f := by cases f <;> rfl
@[simp] theorem doneRxh_memRead (f : FifoId) (i : Ptr) :
    memRead f i (doneRxh s) = memRead f i s := by simp [memRead]

/-! ### `doneTxh` -/

@[simp] theorem doneTxh_rx : (doneTxh s).rx = s.rx := rfl
@[simp] theorem doneTxh_tx : (doneTxh s).tx = s.tx := rfl
@[simp] theorem doneTxh_rxie : (doneTxh s).rxie = s.rxie := rfl
@[simp] theorem doneTxh_txie : (doneTxh s).txie = s.txie := rfl
@[simp] theorem doneTxh_periph : (doneTxh s).periph = s.periph := rfl
@[simp] theorem doneTxh_host : (doneTxh s).host = s.host := rfl
@[simp] theorem doneTxh_rxh : (doneTxh s).rxh = s.rxh := rfl
@[simp] theorem doneTxh_txh : (doneTxh s).txh = { s.txh with phase := .idle } := rfl
@[simp] theorem doneTxh_ghost : (doneTxh s).ghost = s.ghost := rfl
@[simp] theorem doneTxh_replies : (doneTxh s).replies = s.replies := rfl
@[simp] theorem doneTxh_program : (doneTxh s).program = s.program := rfl
@[simp] theorem doneTxh_schedule : (doneTxh s).schedule = s.schedule := rfl
@[simp] theorem doneTxh_draws : (doneTxh s).draws = s.draws := rfl
@[simp] theorem doneTxh_fifo (f : FifoId) : (doneTxh s).fifo f = s.fifo f := by cases f <;> rfl
@[simp] theorem doneTxh_memRead (f : FifoId) (i : Ptr) :
    memRead f i (doneTxh s) = memRead f i s := by simp [memRead]

/-! ### `logArrival` -/

@[simp] theorem logArrival_rx (b : Byte) : (logArrival b s).rx = s.rx := rfl
@[simp] theorem logArrival_tx (b : Byte) : (logArrival b s).tx = s.tx := rfl
@[simp] theorem logArrival_rxie (b : Byte) : (logArrival b s).rxie = s.rxie := rfl
@[simp] theorem logArrival_txie (b : Byte) : (logArrival b s).txie = s.txie := rfl
@[simp] theorem logArrival_periph (b : Byte) : (logArrival b s).periph = s.periph := rfl
@[simp] theorem logArrival_host (b : Byte) : (logArrival b s).host = s.host := rfl
@[simp] theorem logArrival_rxh (b : Byte) : (logArrival b s).rxh = s.rxh := rfl
@[simp] theorem logArrival_txh (b : Byte) : (logArrival b s).txh = s.txh := rfl
@[simp] theorem logArrival_ghost (b : Byte) : (logArrival b s).ghost = { s.ghost with rxLog := s.ghost.rxLog ++ [{ byte := b, fate := .pending }] } := rfl
@[simp] theorem logArrival_replies (b : Byte) : (logArrival b s).replies = s.replies := rfl
@[simp] theorem logArrival_program (b : Byte) : (logArrival b s).program = s.program := rfl
@[simp] theorem logArrival_schedule (b : Byte) : (logArrival b s).schedule = s.schedule := rfl
@[simp] theorem logArrival_draws (b : Byte) : (logArrival b s).draws = s.draws := rfl
@[simp] theorem logArrival_fifo (b : Byte) (f : FifoId) : (logArrival b s).fifo f = s.fifo f := by cases f <;> rfl
@[simp] theorem logArrival_memRead (b : Byte) (f : FifoId) (i : Ptr) :
    memRead f i (logArrival b s) = memRead f i s := by simp [memRead]

/-! ### `logDrop` -/

@[simp] theorem logDrop_rx : (logDrop s).rx = s.rx := rfl
@[simp] theorem logDrop_tx : (logDrop s).tx = s.tx := rfl
@[simp] theorem logDrop_rxie : (logDrop s).rxie = s.rxie := rfl
@[simp] theorem logDrop_txie : (logDrop s).txie = s.txie := rfl
@[simp] theorem logDrop_periph : (logDrop s).periph = s.periph := rfl
@[simp] theorem logDrop_host : (logDrop s).host = s.host := rfl
@[simp] theorem logDrop_rxh : (logDrop s).rxh = s.rxh := rfl
@[simp] theorem logDrop_txh : (logDrop s).txh = s.txh := rfl
@[simp] theorem logDrop_ghost : (logDrop s).ghost = { s.ghost with
      rxLog := settleLast .dropped s.ghost.rxLog, rxDrop := s.ghost.rxDrop + 1 } := rfl
@[simp] theorem logDrop_replies : (logDrop s).replies = s.replies := rfl
@[simp] theorem logDrop_program : (logDrop s).program = s.program := rfl
@[simp] theorem logDrop_schedule : (logDrop s).schedule = s.schedule := rfl
@[simp] theorem logDrop_draws : (logDrop s).draws = s.draws := rfl
@[simp] theorem logDrop_fifo (f : FifoId) : (logDrop s).fifo f = s.fifo f := by cases f <;> rfl
@[simp] theorem logDrop_memRead (f : FifoId) (i : Ptr) :
    memRead f i (logDrop s) = memRead f i s := by simp [memRead]

/-! ### `logAccept` -/

@[simp] theorem logAccept_rx : (logAccept s).rx = s.rx := rfl
@[simp] theorem logAccept_tx : (logAccept s).tx = s.tx := rfl
@[simp] theorem logAccept_rxie : (logAccept s).rxie = s.rxie := rfl
@[simp] theorem logAccept_txie : (logAccept s).txie = s.txie := rfl
@[simp] theorem logAccept_periph : (logAccept s).periph = s.periph := rfl
@[simp] theorem logAccept_host : (logAccept s).host = s.host := rfl
@[simp] theorem logAccept_rxh : (logAccept s).rxh = s.rxh := rfl
@[simp] theorem logAccept_txh : (logAccept s).txh = s.txh := rfl
@[simp] theorem logAccept_ghost : (logAccept s).ghost = { s.ghost with
      rxLog := settleLast .accepted s.ghost.rxLog } := rfl
@[simp] theorem logAccept_replies : (logAccept s).replies = s.replies := rfl
@[simp] theorem logAccept_program : (logAccept s).program = s.program := rfl
@[simp] theorem logAccept_schedule : (logAccept s).schedule = s.schedule := rfl
@[simp] theorem logAccept_draws : (logAccept s).draws = s.draws := rfl
@[simp] theorem logAccept_fifo (f : FifoId) : (logAccept s).fifo f = s.fifo f := by cases f <;> rfl
@[simp] theorem logAccept_memRead (f : FifoId) (i : Ptr) :
    memRead f i (logAccept s) = memRead f i s := by simp [memRead]

/-! ### The operations on one buffer -/

@[simp] theorem fifo_rx : s.fifo .rx = s.rx := rfl
@[simp] theorem fifo_tx : s.fifo .tx = s.tx := rfl
@[simp] theorem setFifo_rx_rx (v : Fifo) : (s.setFifo .rx v).rx = v := rfl
@[simp] theorem setFifo_rx_tx (v : Fifo) : (s.setFifo .rx v).tx = s.tx := rfl
@[simp] theorem setFifo_tx_rx (v : Fifo) : (s.setFifo .tx v).rx = s.rx := rfl
@[simp] theorem setFifo_tx_tx (v : Fifo) : (s.setFifo .tx v).tx = v := rfl

@[simp] theorem setFifo_rxie (f : FifoId) (v : Fifo) : (s.setFifo f v).rxie = s.rxie := by cases f <;> rfl
@[simp] theorem setFifo_txie (f : FifoId) (v : Fifo) : (s.setFifo f v).txie = s.txie := by cases f <;> rfl
@[simp] theorem setFifo_periph (f : FifoId) (v : Fifo) : (s.setFifo f v).periph = s.periph := by cases f <;> rfl
@[simp] theorem setFifo_host (f : FifoId) (v : Fifo) : (s.setFifo f v).host = s.host := by cases f <;> rfl
@[simp] theorem setFifo_rxh (f : FifoId) (v : Fifo) : (s.setFifo f v).rxh = s.rxh := by cases f <;> rfl
@[simp] theorem setFifo_txh (f : FifoId) (v : Fifo) : (s.setFifo f v).txh = s.txh := by cases f <;> rfl
@[simp] theorem setFifo_ghost (f : FifoId) (v : Fifo) : (s.setFifo f v).ghost = s.ghost := by cases f <;> rfl
@[simp] theorem setFifo_replies (f : FifoId) (v : Fifo) : (s.setFifo f v).replies = s.replies := by cases f <;> rfl
@[simp] theorem setFifo_program (f : FifoId) (v : Fifo) : (s.setFifo f v).program = s.program := by cases f <;> rfl
@[simp] theorem setFifo_schedule (f : FifoId) (v : Fifo) : (s.setFifo f v).schedule = s.schedule := by cases f <;> rfl
@[simp] theorem setFifo_draws (f : FifoId) (v : Fifo) : (s.setFifo f v).draws = s.draws := by cases f <;> rfl

@[simp] theorem setFifo_fifo_same (f : FifoId) (v : Fifo) : (s.setFifo f v).fifo f = v := by cases f <;> rfl

theorem setFifo_fifo_other {f g : FifoId} (h : g ≠ f) (v : Fifo) : (s.setFifo f v).fifo g = s.fifo g := by
  cases f <;> cases g <;> first | rfl | exact absurd rfl h

@[simp] theorem memWrite_fifo_same (f : FifoId) (i : Ptr) (v : Byte) :
    (memWrite f i v s).fifo f = { s.fifo f with buf := (s.fifo f).buf.write i.toNat v } :=
  setFifo_fifo_same ..

theorem memWrite_fifo_other {f g : FifoId} (h : g ≠ f) (i : Ptr) (v : Byte) :
    (memWrite f i v s).fifo g = s.fifo g :=
  setFifo_fifo_other s h _

@[simp] theorem memWrite_rx_rx (i : Ptr) (v : Byte) :
    (memWrite .rx i v s).rx = { s.rx with buf := s.rx.buf.write i.toNat v } := rfl
@[simp] theorem memWrite_rx_tx (i : Ptr) (v : Byte) : (memWrite .rx i v s).tx = s.tx := rfl
@[simp] theorem memWrite_tx_tx (i : Ptr) (v : Byte) :
    (memWrite .tx i v s).tx = { s.tx with buf := s.tx.buf.write i.toNat v } := rfl
@[simp] theorem memWrite_tx_rx (i : Ptr) (v : Byte) : (memWrite .tx i v s).rx = s.rx := rfl
@[simp] theorem memWrite_rxie (f : FifoId) (i : Ptr) (v : Byte) : (memWrite f i v s).rxie = s.rxie := by cases f <;> rfl
@[simp] theorem memWrite_txie (f : FifoId) (i : Ptr) (v : Byte) : (memWrite f i v s).txie = s.txie := by cases f <;> rfl
@[simp] theorem memWrite_periph (f : FifoId) (i : Ptr) (v : Byte) : (memWrite f i v s).periph = s.periph := by cases f <;> rfl
@[simp] theorem memWrite_host (f : FifoId) (i : Ptr) (v : Byte) : (memWrite f i v s).host = s.host := by cases f <;> rfl
@[simp] theorem memWrite_rxh (f : FifoId) (i : Ptr) (v : Byte) : (memWrite f i v s).rxh = s.rxh := by cases f <;> rfl
@[simp] theorem memWrite_txh (f : FifoId) (i : Ptr) (v : Byte) : (memWrite f i v s).txh = s.txh := by cases f <;> rfl
@[simp] theorem memWrite_ghost (f : FifoId) (i : Ptr) (v : Byte) : (memWrite f i v s).ghost = s.ghost := by cases f <;> rfl
@[simp] theorem memWrite_replies (f : FifoId) (i : Ptr) (v : Byte) : (memWrite f i v s).replies = s.replies := by cases f <;> rfl
@[simp] theorem memWrite_program (f : FifoId) (i : Ptr) (v : Byte) : (memWrite f i v s).program = s.program := by cases f <;> rfl
@[simp] theorem memWrite_schedule (f : FifoId) (i : Ptr) (v : Byte) : (memWrite f i v s).schedule = s.schedule := by cases f <;> rfl
@[simp] theorem memWrite_draws (f : FifoId) (i : Ptr) (v : Byte) : (memWrite f i v s).draws = s.draws := by cases f <;> rfl

@[simp] theorem setHead_fifo_same (f : FifoId) (v : Ptr) :
    (setHead f v s).fifo f = { s.fifo f with head := v } :=
  setFifo_fifo_same ..

theorem setHead_fifo_other {f g : FifoId} (h : g ≠ f) (v : Ptr) :
    (setHead f v s).fifo g = s.fifo g :=
  setFifo_fifo_other s h _

@[simp] theorem setHead_rx_rx (v : Ptr) :
    (setHead .rx v s).rx = { s.rx with head := v } := rfl
@[simp] theorem setHead_rx_tx (v : Ptr) : (setHead .rx v s).tx = s.tx := rfl
@[simp] theorem setHead_tx_tx (v : Ptr) :
    (setHead .tx v s).tx = { s.tx with head := v } := rfl
@[simp] theorem setHead_tx_rx (v : Ptr) : (setHead .tx v s).rx = s.rx := rfl
@[simp] theorem setHead_rxie (f : FifoId) (v : Ptr) : (setHead f v s).rxie = s.rxie := by cases f <;> rfl
@[simp] theorem setHead_txie (f : FifoId) (v : Ptr) : (setHead f v s).txie = s.txie := by cases f <;> rfl
@[simp] theorem setHead_periph (f : FifoId) (v : Ptr) : (setHead f v s).periph = s.periph := by cases f <;> rfl
@[simp] theorem setHead_host (f : FifoId) (v : Ptr) : (setHead f v s).host = s.host := by cases f <;> rfl
@[simp] theorem setHead_rxh (f : FifoId) (v : Ptr) : (setHead f v s).rxh = s.rxh := by cases f <;> rfl
@[simp] theorem setHead_txh (f : FifoId) (v : Ptr) : (setHead f v s).txh = s.txh := by cases f <;> rfl
@[simp] theorem setHead_ghost (f : FifoId) (v : Ptr) : (setHead f v s).ghost = s.ghost := by cases f <;> rfl
@[simp] theorem setHead_replies (f : FifoId) (v : Ptr) : (setHead f v s).replies = s.replies := by cases f <;> rfl
@[simp] theorem setHead_program (f : FifoId) (v : Ptr) : (setHead f v s).program = s.program := by cases f <;> rfl
@[simp] theorem setHead_schedule (f : FifoId) (v : Ptr) : (setHead f v s).schedule = s.schedule := by cases f <;> rfl
@[simp] theorem setHead_draws (f : FifoId) (v : Ptr) : (setHead f v s).draws = s.draws := by cases f <;> rfl

@[simp] theorem setTail_fifo_same (f : FifoId) (v : Ptr) :
    (setTail f v s).fifo f = { s.fifo f with tail := v } :=
  setFifo_fifo_same ..

theorem setTail_fifo_other {f g : FifoId} (h : g ≠ f) (v : Ptr) :
    (setTail f v s).fifo g = s.fifo g :=
  setFifo_fifo_other s h _

@[simp] theorem setTail_rx_rx (v : Ptr) :
    (setTail .rx v s).rx = { s.rx with tail := v } := rfl
@[simp] theorem setTail_rx_tx (v : Ptr) : (setTail .rx v s).tx = s.tx := rfl
@[simp] theorem setTail_tx_tx (v : Ptr) :
    (setTail .tx v s).tx = { s.tx with tail := v } := rfl
@[simp] theorem setTail_tx_rx (v : Ptr) : (setTail .tx v s).rx = s.rx := rfl
@[simp] theorem setTail_rxie (f : FifoId) (v : Ptr) : (setTail f v s).rxie = s.rxie := by cases f <;> rfl
@[simp] theorem setTail_txie (f : FifoId) (v : Ptr) : (setTail f v s).txie = s.txie := by cases f <;> rfl
@[simp] theorem setTail_periph (f : FifoId) (v : Ptr) : (setTail f v s).periph = s.periph := by cases f <;> rfl
@[simp] theorem setTail_host (f : FifoId) (v : Ptr) : (setTail f v s).host = s.host := by cases f <;> rfl
@[simp] theorem setTail_rxh (f : FifoId) (v : Ptr) : (setTail f v s).rxh = s.rxh := by cases f <;> rfl
@[simp] theorem setTail_txh (f : FifoId) (v : Ptr) : (setTail f v s).txh = s.txh := by cases f <;> rfl
@[simp] theorem setTail_ghost (f : FifoId) (v : Ptr) : (setTail f v s).ghost = s.ghost := by cases f <;> rfl
@[simp] theorem setTail_replies (f : FifoId) (v : Ptr) : (setTail f v s).replies = s.replies := by cases f <;> rfl
@[simp] theorem setTail_program (f : FifoId) (v : Ptr) : (setTail f v s).program = s.program := by cases f <;> rfl
@[simp] theorem setTail_schedule (f : FifoId) (v : Ptr) : (setTail f v s).schedule = s.schedule := by cases f <;> rfl
@[simp] theorem setTail_draws (f : FifoId) (v : Ptr) : (setTail f v s).draws = s.draws := by cases f <;> rfl

/-! ### The steps of the environment and the entries of the handlers -/

theorem peTxe_eq : peTxe s = { s with periph := { s.periph with txifg := true } } := by
  unfold peTxe
  split
  · next h => cases s; rename_i p _ _ _ _ _ _ _ _; cases p; simp_all
  · rfl

@[simp] theorem peTxe_rx : (peTxe s).rx = s.rx := by simp [peTxe_eq]
@[simp] theorem peTxe_tx : (peTxe s).tx = s.tx := by simp [peTxe_eq]
@[simp] theorem peTxe_rxie : (peTxe s).rxie = s.rxie := by simp [peTxe_eq]
@[simp] theorem peTxe_txie : (peTxe s).txie = s.txie := by simp [peTxe_eq]
@[simp] theorem peTxe_periph : (peTxe s).periph = { s.periph with txifg := true } := by simp [peTxe_eq]
@[simp] theorem peTxe_host : (peTxe s).host = s.host := by simp [peTxe_eq]
@[simp] theorem peTxe_rxh : (peTxe s).rxh = s.rxh := by simp [peTxe_eq]
@[simp] theorem peTxe_txh : (peTxe s).txh = s.txh := by simp [peTxe_eq]
@[simp] theorem peTxe_ghost : (peTxe s).ghost = s.ghost := by simp [peTxe_eq]
@[simp] theorem peTxe_replies : (peTxe s).replies = s.replies := by simp [peTxe_eq]
@[simp] theorem peTxe_program : (peTxe s).program = s.program := by simp [peTxe_eq]
@[simp] theorem peTxe_schedule : (peTxe s).schedule = s.schedule := by simp [peTxe_eq]
@[simp] theorem peTxe_draws : (peTxe s).draws = s.draws := by simp [peTxe_eq]
@[simp] theorem peTxe_fifo (f : FifoId) : (peTxe s).fifo f = s.fifo f := by cases f <;> simp
@[simp] theorem peTxe_memRead (f : FifoId) (i : Ptr) : memRead f i (peTxe s) = memRead f i s := by
  simp [memRead]

theorem enterRxh_of_event (h : s.rxEvent = true) : enterRxh s = rxhGoto .x1 s := if_pos h
theorem enterRxh_of_no_event (h : s.rxEvent = false) : enterRxh s = s := by simp [enterRxh, h]
theorem enterTxh_of_event (h : s.txEvent = true) : enterTxh s = txhGoto .y1 s := if_pos h
theorem enterTxh_of_no_event (h : s.txEvent = false) : enterTxh s = s := by simp [enterTxh, h]

/-! ### The tag of the last arrival -/

@[simp] theorem settleLast_append (fate : RxFate) (l : List RxEntry) (e : RxEntry) :
    settleLast fate (l ++ [e]) = l ++ [{ e with fate := fate }] := by
  induction l with
  | nil => rfl
  | cons a l ih => cases l <;> simp_all [settleLast]

end Sys2Proof.Machine
end

