-- ==== Sys2Proof/Laws/Exec.lean ====
section
/-! SUPPORT. What `exec` answers at each label, one equation per micro-step; and what leaves the stall
condition of R233 as it is. -/

namespace Sys2Proof.Machine

/-- The stall condition depends on the two handler sequencers alone. -/
theorem handlerActive_congr {s t : State} (hr : t.rxh = s.rxh) (ht : t.txh = s.txh) :
    t.handlerActive = s.handlerActive := by simp [State.handlerActive, hr, ht]

@[simp] theorem hostGoto_handlerActive (s : State) (p : HPhase) :
    (hostGoto p s).handlerActive = s.handlerActive := rfl
@[simp] theorem accept_handlerActive (s : State) (op : HostOp) (arg : Arg) (p : HPhase) :
    (accept op arg p s).handlerActive = s.handlerActive := rfl
@[simp] theorem respond_handlerActive (s : State) (w : Option Rsp) :
    (respond w s).handlerActive = s.handlerActive := rfl
@[simp] theorem latchNxt_handlerActive (s : State) (v : Ptr) :
    (latchNxt v s).handlerActive = s.handlerActive := rfl
@[simp] theorem latchPtr_handlerActive (s : State) (v : Ptr) :
    (latchPtr v s).handlerActive = s.handlerActive := rfl
@[simp] theorem latchByte_handlerActive (s : State) (v : Byte) :
    (latchByte v s).handlerActive = s.handlerActive := rfl
@[simp] theorem latchLine_handlerActive (s : State) (c : LineConfig) :
    (latchLine c s).handlerActive = s.handlerActive := rfl
@[simp] theorem setTxie_handlerActive (s : State) (b : Bool) :
    (setTxie b s).handlerActive = s.handlerActive := rfl
@[simp] theorem setRxie_handlerActive (s : State) (b : Bool) :
    (setRxie b s).handlerActive = s.handlerActive := rfl
@[simp] theorem setSwrst_handlerActive (s : State) (b : Bool) :
    (setSwrst b s).handlerActive = s.handlerActive := rfl
@[simp] theorem programLine_handlerActive (s : State) (c : LineConfig) :
    (programLine c s).handlerActive = s.handlerActive := rfl
@[simp] theorem pushStore_handlerActive (f : FifoId) (s : State) (b : Byte) :
     (pushStore f b s).handlerActive = s.handlerActive := by cases f <;> rfl
@[simp] theorem pushPublish_handlerActive (f : FifoId) (s : State) (v : Ptr) :
     (pushPublish f v s).handlerActive = s.handlerActive := by cases f <;> rfl
@[simp] theorem clearPublish_handlerActive (f : FifoId) (s : State) (v : Ptr) :
     (clearPublish f v s).handlerActive = s.handlerActive := by cases f <;> rfl
@[simp] theorem popPublish_handlerActive (f : FifoId) (s : State) :
     (popPublish f s).handlerActive = s.handlerActive := by cases f <;> rfl

variable (s : State)

theorem exec_begin_issue (baud : Arg)
    (hs : s.handlerActive = false) (hp : s.host.phase = .idle) (hc : s.trafficInFlight = false) :
    exec (.begin baud) s = .next (accept .begin baud .b1 s) := by
  simp [exec, execBegin, hp, hc, unlessPreempted, hs]

theorem exec_begin_issue_refused (baud : Arg)
    (hs : s.handlerActive = false) (hp : s.host.phase = .idle) (hc : s.trafficInFlight = true) :
    exec (.begin baud) s = .refused .trafficInFlight := by
  simp [exec, execBegin, hp, hc, unlessPreempted, hs]

theorem exec_begin_b1 (baud : Arg)
    (hs : s.handlerActive = false) (hp : s.host.phase = .b1) (ha : s.host.arg ≠ 0) :
    exec (.begin baud) s = .next (hostGoto .b2 (latchLine (lineConfig Config.srcClkHz.toNat s.host.arg.toNat) s)) := by
  simpa [exec, execBegin, hp, unlessPreempted, hs] using ha

theorem exec_begin_b1_refused (baud : Arg)
    (hs : s.handlerActive = false) (hp : s.host.phase = .b1) (ha : s.host.arg = 0) :
    exec (.begin baud) s = .refused .divisionByZero := by
  simp [exec, execBegin, hp, ha, unlessPreempted, hs]

theorem exec_begin_b2 (baud : Arg)
    (hs : s.handlerActive = false) (hp : s.host.phase = .b2) :
    exec (.begin baud) s = .next (hostGoto .b3 (setSwrst true s)) := by
  simp [exec, execBegin, hp, unlessPreempted, hs]

theorem exec_begin_b3 (baud : Arg)
    (hs : s.handlerActive = false) (hp : s.host.phase = .b3) :
    exec (.begin baud) s = .next (hostGoto .b4 (programLine s.host.line s)) := by
  simp [exec, execBegin, hp, unlessPreempted, hs]

theorem exec_begin_b4 (baud : Arg)
    (hs : s.handlerActive = false) (hp : s.host.phase = .b4) :
    exec (.begin baud) s = .next (hostGoto .b5 (setSwrst false s)) := by
  simp [exec, execBegin, hp, unlessPreempted, hs]

theorem exec_begin_b5 (baud : Arg)
    (hs : s.handlerActive = false) (hp : s.host.phase = .b5) :
    exec (.begin baud) s = .next (respond none (setRxie true s)) := by
  simp [exec, execBegin, hp, unlessPreempted, hs]

theorem exec_end_issue
    (hs : s.handlerActive = false) (hp : s.host.phase = .idle) :
    exec .end_ s = .next (accept .end_ 0 .e1 s) := by
  simp [exec, execEnd, hp, unlessPreempted, hs]

theorem exec_end_e1
    (hs : s.handlerActive = false) (hp : s.host.phase = .e1) (he : countOf .tx s = 0) :
    exec .end_ s = .next (hostGoto .e2 s) := by
  simp [exec, execEnd, hp, he, unlessPreempted, hs]

theorem exec_end_e1_spin
    (hs : s.handlerActive = false) (hp : s.host.phase = .e1) (he : countOf .tx s ≠ 0) :
    exec .end_ s = .next s := by
  simp [exec, execEnd, hp, he, unlessPreempted, hs]

theorem exec_end_e2
    (hs : s.handlerActive = false) (hp : s.host.phase = .e2) :
    exec .end_ s = .next (hostGoto .e3 (latchPtr (clearSample .rx s) s)) := by
  simp [exec, execEnd, hp, unlessPreempted, hs]

theorem exec_end_e3
    (hs : s.handlerActive = false) (hp : s.host.phase = .e3) :
    exec .end_ s = .next (respond none (clearPublish .rx s.host.ptr s)) := by
  simp [exec, execEnd, hp, unlessPreempted, hs]

theorem exec_available_issue
    (hs : s.handlerActive = false) (hp : s.host.phase = .idle) :
    exec .available s = .next (accept .available 0 .a1 s) := by
  simp [exec, execAvailable, hp, unlessPreempted, hs]

theorem exec_available_a1
    (hs : s.handlerActive = false) (hp : s.host.phase = .a1) :
    exec .available s = .next (respond (some (rspOfCount (countOf .rx s))) s) := by
  simp [exec, execAvailable, hp, unlessPreempted, hs]

theorem exec_peek_issue
    (hs : s.handlerActive = false) (hp : s.host.phase = .idle) :
    exec .peek s = .next (accept .peek 0 .k1 s) := by
  simp [exec, execPeek, hp, unlessPreempted, hs]

theorem exec_peek_k1_none
    (hs : s.handlerActive = false) (hp : s.host.phase = .k1) (he : popNone .rx s = true) :
    exec .peek s = .next (respond (some Config.emptySentinel) s) := by
  simp [exec, execPeek, hp, he, unlessPreempted, hs]

theorem exec_peek_k1_some
    (hs : s.handlerActive = false) (hp : s.host.phase = .k1) (he : popNone .rx s = false) :
    exec .peek s = .next (hostGoto .k2 s) := by
  simp [exec, execPeek, hp, he, unlessPreempted, hs]

theorem exec_peek_k2
    (hs : s.handlerActive = false) (hp : s.host.phase = .k2) :
    exec .peek s = .next (respond (some (rspOfByte (popByte .rx s))) (latchByte (popByte .rx s) s)) := by
  simp [exec, execPeek, hp, unlessPreempted, hs]

theorem exec_read_issue
    (hs : s.handlerActive = false) (hp : s.host.phase = .idle) :
    exec .read s = .next (accept .read 0 .d1 s) := by
  simp [exec, execRead, hp, unlessPreempted, hs]

theorem exec_read_d1_none
    (hs : s.handlerActive = false) (hp : s.host.phase = .d1) (he : popNone .rx s = true) :
    exec .read s = .next (respond (some Config.emptySentinel) s) := by
  simp [exec, execRead, hp, he, unlessPreempted, hs]

theorem exec_read_d1_some
    (hs : s.handlerActive = false) (hp : s.host.phase = .d1) (he : popNone .rx s = false) :
    exec .read s = .next (hostGoto .d2 s) := by
  simp [exec, execRead, hp, he, unlessPreempted, hs]

theorem exec_read_d2
    (hs : s.handlerActive = false) (hp : s.host.phase = .d2) :
    exec .read s = .next (hostGoto .d3 (latchByte (popByte .rx s) s)) := by
  simp [exec, execRead, hp, unlessPreempted, hs]

theorem exec_read_d3
    (hs : s.handlerActive = false) (hp : s.host.phase = .d3) :
    exec .read s = .next (respond (some (rspOfByte s.host.byte)) (popPublish .rx s)) := by
  simp [exec, execRead, hp, unlessPreempted, hs]

theorem exec_write_issue (b : Byte)
    (hs : s.handlerActive = false) (hp : s.host.phase = .idle) :
    exec (.write b) s = .next (accept .write (argOfByte b) .w1 s) := by
  simp [exec, execWrite, hp, unlessPreempted, hs]

theorem exec_write_w1_spin (b : Byte)
    (hs : s.handlerActive = false) (hp : s.host.phase = .w1) (hf : pushRejected .tx s = true) :
    exec (.write b) s = .next (latchNxt (pushNext .tx s) s) := by
  simp [exec, execWrite, hp, hf, unlessPreempted, hs]

theorem exec_write_w1_free (b : Byte)
    (hs : s.handlerActive = false) (hp : s.host.phase = .w1) (hf : pushRejected .tx s = false) :
    exec (.write b) s = .next (hostGoto .w2 (latchNxt (pushNext .tx s) s)) := by
  simp [exec, execWrite, hp, hf, unlessPreempted, hs]

theorem exec_write_w2 (b : Byte)
    (hs : s.handlerActive = false) (hp : s.host.phase = .w2) :
    exec (.write b) s = .next (hostGoto .w3 (pushStore .tx (byteOfArg s.host.arg) s)) := by
  simp [exec, execWrite, hp, unlessPreempted, hs]

theorem exec_write_w3 (b : Byte)
    (hs : s.handlerActive = false) (hp : s.host.phase = .w3) :
    exec (.write b) s = .next (hostGoto .w4 (pushPublish .tx s.host.nxt s)) := by
  simp [exec, execWrite, hp, unlessPreempted, hs]

theorem exec_write_w4 (b : Byte)
    (hs : s.handlerActive = false) (hp : s.host.phase = .w4) :
    exec (.write b) s = .next (respond (some rspOne) (setTxie true s)) := by
  simp [exec, execWrite, hp, unlessPreempted, hs]

theorem exec_flush_issue
    (hs : s.handlerActive = false) (hp : s.host.phase = .idle) :
    exec .flush s = .next (accept .flush 0 .f1 s) := by
  simp [exec, execFlush, hp, unlessPreempted, hs]

theorem exec_flush_f1
    (hs : s.handlerActive = false) (hp : s.host.phase = .f1) (he : countOf .tx s = 0) :
    exec .flush s = .next (respond none s) := by
  simp [exec, execFlush, hp, he, unlessPreempted, hs]

theorem exec_flush_f1_spin
    (hs : s.handlerActive = false) (hp : s.host.phase = .f1) (he : countOf .tx s ≠ 0) :
    exec .flush s = .next s := by
  simp [exec, execFlush, hp, he, unlessPreempted, hs]

theorem exec_rxisr_start
    (hp : s.rxh.phase = .idle) (hv : s.rxEvent = true) :
    exec .rxisr s = .next (rxhGoto .x1 s) := by
  simp [exec, execRxisr, hp, hv, enterRxh]

theorem exec_rxisr_no_start
    (hp : s.rxh.phase = .idle) (hv : s.rxEvent = false) :
    exec .rxisr s = .next s := by
  simp [exec, execRxisr, hp, hv, enterRxh]

theorem exec_rxisr_x1
    (hp : s.rxh.phase = .x1) :
    exec .rxisr s = .next (rxhGoto .x2
        (logArrival s.periph.rxbuf (rxhLatchByte s.periph.rxbuf (periphReadAck s)))) := by
  simp [exec, execRxisr, hp]

theorem exec_rxisr_x2_drop
    (hp : s.rxh.phase = .x2) (hf : pushRejected .rx s = true) :
    exec .rxisr s = .next (doneRxh (logDrop (rxhLatchNxt (pushNext .rx s) s))) := by
  simp [exec, execRxisr, hp, hf]

theorem exec_rxisr_x2_keep
    (hp : s.rxh.phase = .x2) (hf : pushRejected .rx s = false) :
    exec .rxisr s = .next (rxhGoto .x3 (rxhLatchNxt (pushNext .rx s) s)) := by
  simp [exec, execRxisr, hp, hf]

theorem exec_rxisr_x3
    (hp : s.rxh.phase = .x3) :
    exec .rxisr s = .next (rxhGoto .x4 (pushStore .rx s.rxh.byte s)) := by
  simp [exec, execRxisr, hp]

theorem exec_rxisr_x4
    (hp : s.rxh.phase = .x4) :
    exec .rxisr s = .next (doneRxh (logAccept (pushPublish .rx s.rxh.nxt s))) := by
  simp [exec, execRxisr, hp]

theorem exec_txisr_start
    (hp : s.txh.phase = .idle) (hv : s.txEvent = true) :
    exec .txisr s = .next (txhGoto .y1 s) := by
  simp [exec, execTxisr, hp, hv, enterTxh]

theorem exec_txisr_no_start
    (hp : s.txh.phase = .idle) (hv : s.txEvent = false) :
    exec .txisr s = .next s := by
  simp [exec, execTxisr, hp, hv, enterTxh]

theorem exec_txisr_y1_none
    (hp : s.txh.phase = .y1) (he : popNone .tx s = true) :
    exec .txisr s = .next (txhGoto .y5 s) := by
  simp [exec, execTxisr, hp, he]

theorem exec_txisr_y1_some
    (hp : s.txh.phase = .y1) (he : popNone .tx s = false) :
    exec .txisr s = .next (txhGoto .y2 s) := by
  simp [exec, execTxisr, hp, he]

theorem exec_txisr_y2
    (hp : s.txh.phase = .y2) :
    exec .txisr s = .next (txhGoto .y3 (txhLatchByte (popByte .tx s) s)) := by
  simp [exec, execTxisr, hp]

theorem exec_txisr_y3
    (hp : s.txh.phase = .y3) :
    exec .txisr s = .next (txhGoto .y4 (popPublish .tx s)) := by
  simp [exec, execTxisr, hp]

theorem exec_txisr_y4
    (hp : s.txh.phase = .y4) :
    exec .txisr s = .next (doneTxh (periphWrite s.txh.byte s)) := by
  simp [exec, execTxisr, hp]

theorem exec_txisr_y5
    (hp : s.txh.phase = .y5) :
    exec .txisr s = .next (doneTxh (setTxie false s)) := by
  simp [exec, execTxisr, hp]

end Sys2Proof.Machine
end

