-- ==== Sys2Proof/Laws/Flags.lean ====
section
/-! SUPPORT. Pointer arithmetic and flags: what R121 and R24 to R26 say of `inc`, `ptrDist`, `empty`, `full`
and `count`, so that no later proof unfolds them. -/

namespace Sys2Proof.Machine

/-- Masking and true modulo agree (R8, R121). -/
theorem inc_toNat (p : Ptr) : (inc p).toNat = (p.toNat + 1) % Config.cap := by
  revert p; decide

theorem dist_lt_cap (h t : Ptr) : ptrDist h t < Config.cap := Nat.mod_lt _ (by decide)

theorem dist_self (t : Ptr) : ptrDist t t = 0 := by revert t; decide

theorem dist_eq_zero {h t : Ptr} : ptrDist h t = 0 ↔ h = t := by revert h t; decide

theorem inc_ne_self (p : Ptr) : inc p ≠ p := by revert p; decide

/-- The distance as a pointer: adding it to the tail gives the head (R57). -/
theorem add_dist (h t : Ptr) : t + BitVec.ofNat 4 (ptrDist h t) = h := by revert h t; decide

/-- A publish by the producer adds one to the count (R27). -/
theorem dist_inc_head {h t : Ptr} (hf : inc h ≠ t) : ptrDist (inc h) t = ptrDist h t + 1 := by
  revert h t; decide

/-- A publish by the consumer takes one from the count (R27). -/
theorem dist_inc_tail {h t : Ptr} (he : h ≠ t) : ptrDist h t = ptrDist h (inc t) + 1 := by
  revert h t; decide

/-- A pointer sampled between `tail` and `head` splits the count. -/
theorem dist_split {h t p : Ptr} (hp : ptrDist p t ≤ ptrDist h t) : ptrDist h t = ptrDist p t + ptrDist h p := by
  revert h t p; decide

theorem Fifo.empty_eq_true {f : Fifo} : f.empty = true ↔ f.head = f.tail := by simp [Fifo.empty]

theorem Fifo.empty_eq_false {f : Fifo} : f.empty = false ↔ f.head ≠ f.tail := by simp [Fifo.empty]

theorem Fifo.full_eq_true {f : Fifo} : f.full = true ↔ inc f.head = f.tail := by simp [Fifo.full]

theorem Fifo.full_eq_false {f : Fifo} : f.full = false ↔ inc f.head ≠ f.tail := by simp [Fifo.full]

theorem Fifo.count_eq_zero {f : Fifo} : f.count = 0 ↔ f.head = f.tail := dist_eq_zero

theorem Fifo.count_lt_cap (f : Fifo) : f.count < Config.cap := dist_lt_cap _ _

end Sys2Proof.Machine
end

