-- ==== Sys2Proof/Laws/Memory.lean ====
section
/-! SUPPORT. The laws of the byte arrays: a read after a write, and the canonical form. -/

namespace Sys2Proof.Machine

@[simp] theorem Memory.lookup_write_same (m : Memory) (a : Nat) (b : Byte) :
    (m.write a b).lookup a = some b := by
  induction m with
  | nil => simp [Memory.write, Memory.lookup]
  | cons c m ih =>
    obtain ⟨k, v⟩ := c
    unfold Memory.write
    split
    · simp [Memory.lookup]
    · split
      · simp [Memory.lookup]
      · next h => simp [Memory.lookup, Ne.symm h, ih]

theorem Memory.lookup_write_other (m : Memory) {a k : Nat} (h : k ≠ a) (b : Byte) :
    (m.write a b).lookup k = m.lookup k := by
  induction m with
  | nil => simp [Memory.write, Memory.lookup, h.symm]
  | cons c m ih =>
    obtain ⟨c, v⟩ := c
    unfold Memory.write
    split
    · simp [Memory.lookup, h.symm]
    · split
      · next h₁ => subst h₁; simp [Memory.lookup, h.symm]
      · by_cases hc : c = k <;> simp [Memory.lookup, hc, ih]

theorem Memory.wfFrom_write (m : Memory) {lo a : Nat} (b : Byte) (hlo : lo ≤ a) (ha : a < Config.cap)
    (hm : m.wfFrom lo = true) : (m.write a b).wfFrom lo = true := by
  induction m generalizing lo with
  | nil => simp [Memory.write, Memory.wfFrom, hlo, ha]
  | cons c m ih =>
    obtain ⟨k, v⟩ := c
    simp only [Memory.wfFrom, Bool.and_eq_true, decide_eq_true_eq] at hm
    unfold Memory.write
    split
    · next h => simp [Memory.wfFrom, hlo, ha, hm, Nat.succ_le_of_lt h]
    · split
      · next h => subst h; simp [Memory.wfFrom, hm]
      · next h₁ h₂ =>
        have h₃ : k + 1 ≤ a := by omega
        simp [Memory.wfFrom, hm, ih h₃ hm.2]

/-- A write to a slot keeps the canonical form. -/
theorem Memory.wf_write (m : Memory) (p : Ptr) (b : Byte) (hm : m.wf = true) :
    (m.write p.toNat b).wf = true :=
  Memory.wfFrom_write m b (Nat.zero_le _) p.isLt hm

/-- Reading depends on the instance alone. -/
theorem memRead_congr {f : FifoId} {s t : State} (h : t.fifo f = s.fifo f) (i : Ptr) :
    memRead f i t = memRead f i s := by simp [memRead, h]

/-- Reading depends on the byte array alone. -/
theorem memRead_congr_buf {f : FifoId} {s t : State} (h : (t.fifo f).buf = (s.fifo f).buf) (i : Ptr) :
    memRead f i t = memRead f i s := by simp [memRead, h]

@[simp] theorem memRead_memWrite_same (f : FifoId) (i : Ptr) (v : Byte) (s : State) :
    memRead f i (memWrite f i v s) = v := by simp [memRead]

theorem memRead_memWrite_other_slot (f : FifoId) {i j : Ptr} (h : j ≠ i) (v : Byte) (s : State) :
    memRead f j (memWrite f i v s) = memRead f j s := by
  have hn : j.toNat ≠ i.toNat := fun e => h (BitVec.eq_of_toNat_eq e)
  simp [memRead, Memory.lookup_write_other _ hn]

theorem memRead_memWrite_other_fifo {f g : FifoId} (h : g ≠ f) (i j : Ptr) (v : Byte) (s : State) :
    memRead g j (memWrite f i v s) = memRead g j s :=
  memRead_congr (memWrite_fifo_other s h i v) j

@[simp] theorem memRead_setHead (f g : FifoId) (v : Ptr) (i : Ptr) (s : State) :
    memRead g i (setHead f v s) = memRead g i s := by
  cases f <;> cases g <;> rfl

@[simp] theorem memRead_setTail (f g : FifoId) (v : Ptr) (i : Ptr) (s : State) :
    memRead g i (setTail f v s) = memRead g i s := by
  cases f <;> cases g <;> rfl

end Sys2Proof.Machine
end

