-- ==== Sys2Proof/Laws/Fifo.lean ====
section
/-! SUPPORT. What each micro-step of the buffer primitives does to the live bytes (R57, R122 to R128). -/

namespace Sys2Proof.Machine

theorem live_length (f : FifoId) (s : State) : (live f s).length = (s.fifo f).count := by
  simp [live, countOf]

/-- The live bytes depend on the instance alone. -/
theorem live_congr {f : FifoId} {s t : State} (h : t.fifo f = s.fifo f) : live f t = live f s := by
  simp [live, countOf, h, memRead]

/-- An empty buffer has no live byte. -/
theorem live_of_empty {f : FifoId} {s : State} (h : (s.fifo f).empty = true) : live f s = [] := by
  have hc : (s.fifo f).count = 0 := Fifo.count_eq_zero.mpr (Fifo.empty_eq_true.mp h)
  simp [live, countOf, hc]

/-- `P2` overwrites no live byte: slot `head` is never live (R131 (i)). -/
theorem live_pushStore (f : FifoId) (b : Byte) (s : State) : live f (pushStore f b s) = live f s := by
  have hne : ∀ k < ptrDist (s.fifo f).head (s.fifo f).tail,
      (s.fifo f).tail + BitVec.ofNat 4 k ≠ (s.fifo f).head := by
    generalize (s.fifo f).head = h
    generalize (s.fifo f).tail = t
    intro k hk
    have hk16 : k < 16 := lt_trans hk (dist_lt_cap h t)
    revert hk
    interval_cases k <;> (revert h t; decide)
  unfold live pushStore pushSlot
  simp only [countOf, Fifo.count, memWrite_fifo_same]
  refine List.map_congr_left fun k hk => ?_
  exact memRead_memWrite_other_slot f (hne k (List.mem_range.mp hk)) b s

/-- A store in one buffer leaves the live bytes of the other. -/
theorem live_pushStore_other {f g : FifoId} (h : g ≠ f) (b : Byte) (s : State) :
    live g (pushStore f b s) = live g s :=
  live_congr (memWrite_fifo_other s h _ _)

/-- `P3` makes the stored byte the newest live one. -/
theorem live_pushPublish (f : FifoId) (s : State) (hf : (s.fifo f).full = false) :
    live f (pushPublish f (inc (s.fifo f).head) s) = live f s ++ [memRead f (s.fifo f).head s] := by
  have hd := dist_inc_head (Fifo.full_eq_false.mp hf)
  simp [live, pushPublish, countOf, Fifo.count, hd, List.range_succ, add_dist]

/-- `Q3` takes away the oldest live byte. -/
theorem live_popPublish (f : FifoId) (s : State) (he : (s.fifo f).empty = false) :
    live f s = popByte f s :: live f (popPublish f s) := by
  have hd := dist_inc_tail (Fifo.empty_eq_false.mp he)
  simp only [live, popPublish, popByte, popSlot, countOf, Fifo.count, setTail_fifo_same, hd,
    List.range_succ_eq_map, List.map_cons, List.map_map]
  refine congrArg₂ _ (by simp) (List.map_congr_left fun k _ => ?_)
  simp only [Function.comp_apply, memRead_setTail, inc]
  congr 1
  simp [BitVec.ofNat_add, BitVec.add_assoc, BitVec.add_comm]

/-- `L2` discards the live bytes older than the sampled pointer (R128). -/
theorem live_clearPublish (f : FifoId) (p : Ptr) (s : State)
    (hp : ptrDist p (s.fifo f).tail ≤ ptrDist (s.fifo f).head (s.fifo f).tail) :
    live f (clearPublish f p s) = (live f s).drop (ptrDist p (s.fifo f).tail) := by
  have hd := dist_split hp
  have ha := add_dist p (s.fifo f).tail
  apply List.ext_getElem
  · simp [live, clearPublish, countOf, Fifo.count]; omega
  · intro k h₁ h₂
    simp only [live, clearPublish, List.getElem_map, List.getElem_range, List.getElem_drop,
      memRead_setTail, setTail_fifo_same]
    rw [BitVec.ofNat_add, ← BitVec.add_assoc, ha]

end Sys2Proof.Machine
end

