-- ==== Sys2Proof/Laws/Micro.lean ====
section
/-! SUPPORT. Everything that a step can do, said once: the labelled micro-steps of all agents with their
guards (R151 to R203, R231, R232), and the lemmas that `exec` and `step` make no other transition. -/

namespace Sys2Proof.Machine

/-- One micro-step of one agent. A micro-step of `HOST` has the guard that no handler is active (R233). -/
inductive Micro (s : State) : State → Prop where
  | issueBegin (baud : Arg) (hs : s.handlerActive = false) (hp : s.host.phase = .idle)
      (hc : s.trafficInFlight = false) : Micro s (accept .begin baud .b1 s)
  | b1 (hs : s.handlerActive = false) (hp : s.host.phase = .b1) (ha : s.host.arg ≠ 0) :
      Micro s (hostGoto .b2 (latchLine (lineConfig Config.srcClkHz.toNat s.host.arg.toNat) s))
  | b2 (hs : s.handlerActive = false) (hp : s.host.phase = .b2) : Micro s (hostGoto .b3 (setSwrst true s))
  | b3 (hs : s.handlerActive = false) (hp : s.host.phase = .b3) :
      Micro s (hostGoto .b4 (programLine s.host.line s))
  | b4 (hs : s.handlerActive = false) (hp : s.host.phase = .b4) : Micro s (hostGoto .b5 (setSwrst false s))
  | b5 (hs : s.handlerActive = false) (hp : s.host.phase = .b5) : Micro s (respond none (setRxie true s))
  | issueEnd (hs : s.handlerActive = false) (hp : s.host.phase = .idle) : Micro s (accept .end_ 0 .e1 s)
  | e1 (hs : s.handlerActive = false) (hp : s.host.phase = .e1) (he : countOf .tx s = 0) :
      Micro s (hostGoto .e2 s)
  | e2 (hs : s.handlerActive = false) (hp : s.host.phase = .e2) :
      Micro s (hostGoto .e3 (latchPtr (clearSample .rx s) s))
  | e3 (hs : s.handlerActive = false) (hp : s.host.phase = .e3) :
      Micro s (respond none (clearPublish .rx s.host.ptr s))
  | issueAvailable (hs : s.handlerActive = false) (hp : s.host.phase = .idle) :
      Micro s (accept .available 0 .a1 s)
  | a1 (hs : s.handlerActive = false) (hp : s.host.phase = .a1) :
      Micro s (respond (some (rspOfCount (countOf .rx s))) s)
  | issuePeek (hs : s.handlerActive = false) (hp : s.host.phase = .idle) : Micro s (accept .peek 0 .k1 s)
  | k1None (hs : s.handlerActive = false) (hp : s.host.phase = .k1) (he : popNone .rx s = true) :
      Micro s (respond (some Config.emptySentinel) s)
  | k1Some (hs : s.handlerActive = false) (hp : s.host.phase = .k1) (he : popNone .rx s = false) :
      Micro s (hostGoto .k2 s)
  | k2 (hs : s.handlerActive = false) (hp : s.host.phase = .k2) :
      Micro s (respond (some (rspOfByte (popByte .rx s))) (latchByte (popByte .rx s) s))
  | issueRead (hs : s.handlerActive = false) (hp : s.host.phase = .idle) : Micro s (accept .read 0 .d1 s)
  | d1None (hs : s.handlerActive = false) (hp : s.host.phase = .d1) (he : popNone .rx s = true) :
      Micro s (respond (some Config.emptySentinel) s)
  | d1Some (hs : s.handlerActive = false) (hp : s.host.phase = .d1) (he : popNone .rx s = false) :
      Micro s (hostGoto .d2 s)
  | d2 (hs : s.handlerActive = false) (hp : s.host.phase = .d2) :
      Micro s (hostGoto .d3 (latchByte (popByte .rx s) s))
  | d3 (hs : s.handlerActive = false) (hp : s.host.phase = .d3) :
      Micro s (respond (some (rspOfByte s.host.byte)) (popPublish .rx s))
  | issueWrite (b : Byte) (hs : s.handlerActive = false) (hp : s.host.phase = .idle) :
      Micro s (accept .write (argOfByte b) .w1 s)
  | w1Spin (hs : s.handlerActive = false) (hp : s.host.phase = .w1) (hf : pushRejected .tx s = true) :
      Micro s (latchNxt (pushNext .tx s) s)
  | w1Free (hs : s.handlerActive = false) (hp : s.host.phase = .w1) (hf : pushRejected .tx s = false) :
      Micro s (hostGoto .w2 (latchNxt (pushNext .tx s) s))
  | w2 (hs : s.handlerActive = false) (hp : s.host.phase = .w2) :
      Micro s (hostGoto .w3 (pushStore .tx (byteOfArg s.host.arg) s))
  | w3 (hs : s.handlerActive = false) (hp : s.host.phase = .w3) :
      Micro s (hostGoto .w4 (pushPublish .tx s.host.nxt s))
  | w4 (hs : s.handlerActive = false) (hp : s.host.phase = .w4) :
      Micro s (respond (some rspOne) (setTxie true s))
  | issueFlush (hs : s.handlerActive = false) (hp : s.host.phase = .idle) : Micro s (accept .flush 0 .f1 s)
  | f1 (hs : s.handlerActive = false) (hp : s.host.phase = .f1) (he : countOf .tx s = 0) :
      Micro s (respond none s)
  | startRxisr (hv : s.rxEvent = true) : Micro s (rxhGoto .x1 s)
  | x1 (hp : s.rxh.phase = .x1) :
      Micro s (rxhGoto .x2 (logArrival s.periph.rxbuf (rxhLatchByte s.periph.rxbuf (periphReadAck s))))
  | x2Drop (hp : s.rxh.phase = .x2) (hf : pushRejected .rx s = true) :
      Micro s (doneRxh (logDrop (rxhLatchNxt (pushNext .rx s) s)))
  | x2Keep (hp : s.rxh.phase = .x2) (hf : pushRejected .rx s = false) :
      Micro s (rxhGoto .x3 (rxhLatchNxt (pushNext .rx s) s))
  | x3 (hp : s.rxh.phase = .x3) : Micro s (rxhGoto .x4 (pushStore .rx s.rxh.byte s))
  | x4 (hp : s.rxh.phase = .x4) : Micro s (doneRxh (logAccept (pushPublish .rx s.rxh.nxt s)))
  | startTxisr (hv : s.txEvent = true) : Micro s (txhGoto .y1 s)
  | y1None (hp : s.txh.phase = .y1) (he : popNone .tx s = true) : Micro s (txhGoto .y5 s)
  | y1Some (hp : s.txh.phase = .y1) (he : popNone .tx s = false) : Micro s (txhGoto .y2 s)
  | y2 (hp : s.txh.phase = .y2) : Micro s (txhGoto .y3 (txhLatchByte (popByte .tx s) s))
  | y3 (hp : s.txh.phase = .y3) : Micro s (txhGoto .y4 (popPublish .tx s))
  | y4 (hp : s.txh.phase = .y4) : Micro s (doneTxh (periphWrite s.txh.byte s))
  | y5 (hp : s.txh.phase = .y5) : Micro s (doneTxh (setTxie false s))
  | peRx (b : Byte) : Micro s (peRx b s)
  | peTxe (hg : s.periph.txifg = false) : Micro s (peTxe s)

/-- A micro-step of `HOST` answers only when no handler is active, or changes nothing (R233). -/
theorem unlessPreempted_next {s t : State} {r : Result} (h : unlessPreempted s r = .next t) :
    t = s ∨ (s.handlerActive = false ∧ r = .next t) := by
  unfold unlessPreempted at h
  split at h
  · exact .inl (Host.Outcome.next.inj h).symm
  · next hs => exact .inr ⟨by simpa using hs, h⟩

theorem execBegin_next {baud : Arg} {s t : State} (h : execBegin baud s = .next t) : t = s ∨ Micro s t := by
  obtain rfl | ⟨hs, h⟩ := unlessPreempted_next h
  · exact .inl rfl
  split at h
  · next hp =>
    split at h
    · nomatch h
    · next hc =>
      cases h
      exact .inr (.issueBegin baud hs hp (by simpa using hc))
  · next hp =>
    split at h
    · nomatch h
    · next ha =>
      cases h
      exact .inr (.b1 hs hp ha)
  · next hp => cases h; exact .inr (.b2 hs hp)
  · next hp => cases h; exact .inr (.b3 hs hp)
  · next hp => cases h; exact .inr (.b4 hs hp)
  · next hp => cases h; exact .inr (.b5 hs hp)
  · cases h; exact .inl rfl

theorem execEnd_next {s t : State} (h : execEnd s = .next t) : t = s ∨ Micro s t := by
  obtain rfl | ⟨hs, h⟩ := unlessPreempted_next h
  · exact .inl rfl
  split at h
  · next hp => cases h; exact .inr (.issueEnd hs hp)
  · next hp =>
    split at h
    · next he => cases h; exact .inr (.e1 hs hp he)
    · cases h; exact .inl rfl
  · next hp => cases h; exact .inr (.e2 hs hp)
  · next hp => cases h; exact .inr (.e3 hs hp)
  · cases h; exact .inl rfl

theorem execAvailable_next {s t : State} (h : execAvailable s = .next t) : t = s ∨ Micro s t := by
  obtain rfl | ⟨hs, h⟩ := unlessPreempted_next h
  · exact .inl rfl
  split at h
  · next hp => cases h; exact .inr (.issueAvailable hs hp)
  · next hp => cases h; exact .inr (.a1 hs hp)
  · cases h; exact .inl rfl

theorem execPeek_next {s t : State} (h : execPeek s = .next t) : t = s ∨ Micro s t := by
  obtain rfl | ⟨hs, h⟩ := unlessPreempted_next h
  · exact .inl rfl
  split at h
  · next hp => cases h; exact .inr (.issuePeek hs hp)
  · next hp =>
    split at h
    · next he => cases h; exact .inr (.k1None hs hp he)
    · next he => cases h; exact .inr (.k1Some hs hp (by simpa using he))
  · next hp => cases h; exact .inr (.k2 hs hp)
  · cases h; exact .inl rfl

theorem execRead_next {s t : State} (h : execRead s = .next t) : t = s ∨ Micro s t := by
  obtain rfl | ⟨hs, h⟩ := unlessPreempted_next h
  · exact .inl rfl
  split at h
  · next hp => cases h; exact .inr (.issueRead hs hp)
  · next hp =>
    split at h
    · next he => cases h; exact .inr (.d1None hs hp he)
    · next he => cases h; exact .inr (.d1Some hs hp (by simpa using he))
  · next hp => cases h; exact .inr (.d2 hs hp)
  · next hp => cases h; exact .inr (.d3 hs hp)
  · cases h; exact .inl rfl

theorem execWrite_next {b : Byte} {s t : State} (h : execWrite b s = .next t) : t = s ∨ Micro s t := by
  obtain rfl | ⟨hs, h⟩ := unlessPreempted_next h
  · exact .inl rfl
  split at h
  · next hp => cases h; exact .inr (.issueWrite b hs hp)
  · next hp =>
    split at h
    · next hf => cases h; exact .inr (.w1Spin hs hp hf)
    · next hf => cases h; exact .inr (.w1Free hs hp (by simpa using hf))
  · next hp => cases h; exact .inr (.w2 hs hp)
  · next hp => cases h; exact .inr (.w3 hs hp)
  · next hp => cases h; exact .inr (.w4 hs hp)
  · cases h; exact .inl rfl

theorem execFlush_next {s t : State} (h : execFlush s = .next t) : t = s ∨ Micro s t := by
  obtain rfl | ⟨hs, h⟩ := unlessPreempted_next h
  · exact .inl rfl
  split at h
  · next hp => cases h; exact .inr (.issueFlush hs hp)
  · next hp =>
    split at h
    · next he => cases h; exact .inr (.f1 hs hp he)
    · cases h; exact .inl rfl
  · cases h; exact .inl rfl

theorem execRxisr_next {s t : State} (h : execRxisr s = .next t) : t = s ∨ Micro s t := by
  unfold execRxisr at h
  split at h
  · cases h
    by_cases hv : s.rxEvent = true
    · rw [enterRxh_of_event s hv]; exact .inr (.startRxisr hv)
    · exact .inl (enterRxh_of_no_event s (by simpa using hv))
  · next hp => cases h; exact .inr (.x1 hp)
  · next hp =>
    split at h
    · next hf => cases h; exact .inr (.x2Drop hp hf)
    · next hf => cases h; exact .inr (.x2Keep hp (by simpa using hf))
  · next hp => cases h; exact .inr (.x3 hp)
  · next hp => cases h; exact .inr (.x4 hp)

theorem execTxisr_next {s t : State} (h : execTxisr s = .next t) : t = s ∨ Micro s t := by
  unfold execTxisr at h
  split at h
  · cases h
    by_cases hv : s.txEvent = true
    · rw [enterTxh_of_event s hv]; exact .inr (.startTxisr hv)
    · exact .inl (enterTxh_of_no_event s (by simpa using hv))
  · next hp =>
    split at h
    · next he => cases h; exact .inr (.y1None hp he)
    · next he => cases h; exact .inr (.y1Some hp (by simpa using he))
  · next hp => cases h; exact .inr (.y2 hp)
  · next hp => cases h; exact .inr (.y3 hp)
  · next hp => cases h; exact .inr (.y4 hp)
  · next hp => cases h; exact .inr (.y5 hp)

/-- Whatever the operation, `exec` changes nothing or makes one micro-step. -/
theorem exec_next {i : Instr} {s t : State} (h : exec i s = .next t) : t = s ∨ Micro s t := by
  cases i with
  | begin baud => exact execBegin_next h
  | end_ => exact execEnd_next h
  | available => exact execAvailable_next h
  | peek => exact execPeek_next h
  | read => exact execRead_next h
  | write b => exact execWrite_next h
  | flush => exact execFlush_next h
  | reserved7 => nomatch h
  | rxisr => exact execRxisr_next h
  | txisr => exact execTxisr_next h

/-- Two states that differ at most in what is still to be presented to the machine: the command words,
the script of turns and the number of free turns drawn. -/
def SameMachine (s u : State) : Prop :=
  ∃ p sch n, u = { s with program := p, schedule := sch, draws := n }

theorem SameMachine.trans {s t u : State} (h₁ : SameMachine s t) (h₂ : SameMachine t u) : SameMachine s u := by
  obtain ⟨_, _, _, rfl⟩ := h₁
  obtain ⟨p, sch, n, rfl⟩ := h₂
  exact ⟨p, sch, n, rfl⟩

theorem nextTurn_sameMachine (s : State) : SameMachine s s.nextTurn.2 := by
  unfold State.nextTurn
  split
  · exact ⟨s.program, _, s.draws, rfl⟩
  · exact ⟨s.program, s.schedule, _, rfl⟩

theorem selectHost_outcome_next {s t : State} (h : (selectHost s).outcome = .next t) :
    ∃ u, SameMachine s u ∧ (t = u ∨ Micro u t) := by
  have self : SameMachine s s := ⟨s.program, s.schedule, s.draws, rfl⟩
  unfold selectHost at h
  split at h
  · cases h; exact ⟨s, self, .inl rfl⟩
  · split at h
    · cases h; exact ⟨s, self, .inl rfl⟩
    · next w ws _ _ => exact ⟨_, ⟨ws, s.schedule, s.draws, rfl⟩, exec_next h⟩
    · exact ⟨s, self, exec_next h⟩

/-- Everything that a step can do: it takes a turn off the script, presents a command word or not, and
then changes nothing or makes one micro-step of one agent. -/
theorem step_next {s t : State} (h : step s = .next t) :
    ∃ u, SameMachine s u ∧ (t = u ∨ Micro u t) := by
  have hn := nextTurn_sameMachine s
  unfold step at h
  generalize s.nextTurn.1 = turn at h
  generalize s.nextTurn.2 = v at h hn
  cases turn with
  | host =>
    obtain ⟨u, hu, ht⟩ := selectHost_outcome_next h
    exact ⟨u, hn.trans hu, ht⟩
  | handler ev => exact ⟨v, hn, exec_next h⟩
  | peRx b => cases h; exact ⟨v, hn, .inr (.peRx b)⟩
  | peTxe =>
    cases h
    by_cases hg : v.periph.txifg = true
    · exact ⟨v, hn, .inl (by simp [peTxe, hg])⟩
    · exact ⟨v, hn, .inr (.peTxe (by simpa using hg))⟩

end Sys2Proof.Machine
end

