-- ==== Sys2Proof/Laws/PerInstr.lean ====
section
/-! SUPPORT. Statements made per instruction, one lemma per constructor of `Instr` (LAWS.json). -/

namespace Sys2Proof

@[simp] theorem opField_commandWord (op : OpField) (arg : Arg) : opField (commandWord op arg) = op := by
  unfold opField commandWord
  ext i hi
  rw [BitVec.getElem_extractLsb']
  refine (BitVec.getLsbD_append ..).trans ?_
  simp [BitVec.getLsbD_eq_getElem hi]

@[simp] theorem argField_commandWord (op : OpField) (arg : Arg) : argField (commandWord op arg) = arg := by
  unfold argField commandWord
  ext i hi
  rw [BitVec.getElem_extractLsb']
  refine (BitVec.getLsbD_append ..).trans ?_
  simp [hi]

@[simp] theorem byteOfArg_argOfByte (b : Byte) : byteOfArg (argOfByte b) = b := by
  apply BitVec.eq_of_toNat_eq
  have := b.isLt
  simp [byteOfArg, argOfByte]
  omega

namespace Laws.EncodeDecode

/-- The packet of an instruction decodes to that instruction (R91 to R96). -/
def Statement (i : Instr) : Prop := decode (encode i) = i

theorem begin (baud : Arg) : Statement (.begin baud) := by simp [Statement, encode, decode, decodeCommand]
theorem end_ : Statement .end_ := rfl
theorem available : Statement .available := rfl
theorem peek : Statement .peek := rfl
theorem read : Statement .read := rfl
theorem write (byte : Byte) : Statement (.write byte) := by simp [Statement, encode, decode, decodeCommand]
theorem flush : Statement .flush := rfl
theorem reserved7 : Statement .reserved7 := rfl
theorem rxisr : Statement .rxisr := rfl
theorem txisr : Statement .txisr := rfl

end Laws.EncodeDecode
end Sys2Proof
end

