-- ==== Sys2Proof/Tests/Slice0.lean ====
section
/-! SUPPORT. The model's own tests: what the well-formedness checks and the decoder refuse, one word per
constructor, one micro-step per test with a result taken from spec/95_test_vectors.md, and for every
obligation with hypotheses a witness that they can be met. -/

namespace Sys2Proof.Tests

open Sys2Proof Sys2Proof.Machine Sys2Proof.Safety

/-! ## Small states -/

/-- `f(h,t)` of spec/95_test_vectors.md. -/
def fifoAt (h t : Ptr) (buf : Memory := []) : Fifo := { buf := buf, head := h, tail := t }

/-- The reset state with a host command in progress. -/
def hostAt (phase : HPhase) (op : HostOp) : State :=
  { State.reset with host := { State.reset.host with phase := phase, op := op } }

/-- The reset state with `RXISR` in progress. -/
def rxhAt (phase : RPhase) : State :=
  { State.reset with rxie := true, rxh := { State.reset.rxh with phase := phase } }

/-- The reset state with `TXISR` in progress. -/
def txhAt (phase : TPhase) : State :=
  { State.reset with
    txie := true
    periph := { State.reset.periph with txifg := true }
    txh := { State.reset.txh with phase := phase } }

/-- The state after a micro-step, if there is one. -/
def nextOf : Result → Option State
  | .next s => some s
  | _ => none

/-- Why a micro-step is refused, if it is. -/
def refusalOf : Result → Option Refusal
  | .refused r => some r
  | _ => none

/-! ## Well-formedness and decoding -/

/-- Op 7 is not assigned (R98). -/
theorem test_wellFormed_refuses_reserved7 : Instr.reserved7.assigned = false := by decide

/-- `BEGIN 0` has no division (R197 (b)). -/
theorem test_wellFormed_refuses_begin_zero : (Instr.begin 0).baudDefined = false := by decide

/-- P5: the nearest accepted inputs. -/
theorem test_wellFormed_accepts_begin_one : (Instr.begin 1).wellFormed = true := by decide

/-- A bit above bit 34 is no command word (R91). -/
theorem test_decode_rejects_wide_command :
    packetOfBits 40 0x800000000 = .error .commandTooWide := by rfl

/-- A bit above bit 0 is no event (R96). -/
theorem test_decode_rejects_wide_event : packetOfBits 8 2 = .error .eventTooWide := by rfl

/-- 000 then 9600 = 0x2580, bit by bit (R91, R92). -/
theorem test_decode_begin :
    decode (.command 0b00000000000000000000010010110000000#35) = .begin 9600 := by decide

/-- The largest operand of `BEGIN`: all of `arg` (R93). -/
theorem test_decode_begin_largest : decodeTableWord 40 0x0FFFFFFFF = some (.begin 0xFFFFFFFF) := by decide

theorem test_decode_end :
    decode (.command 0b00100000000000000000000000000000000#35) = .end_ := by decide

theorem test_decode_available :
    decode (.command 0b01000000000000000000000000000000000#35) = .available := by decide

theorem test_decode_peek :
    decode (.command 0b01100000000000000000000000000000000#35) = .peek := by decide

/-- D-E: the operand of `READ` is ignored. -/
theorem test_decode_read :
    decode (.command 0b10000010010001101000101011001111000#35) = .read := by decide

/-- D-T6: `0x5_DEADBE41` is `WRITE 0x41`. -/
theorem test_decode_write : decodeTableWord 40 0x5DEADBE41 = some (.write 0x41) := by decide

theorem test_decode_flush :
    decode (.command 0b11000000000000000000000000000000000#35) = .flush := by decide

theorem test_decode_reserved7 :
    decode (.command 0b11100000000000000000000000000000000#35) = .reserved7 := by decide

theorem test_decode_rxisr : decode (.event 0b0#1) = .rxisr := by decide

theorem test_decode_txisr : decode (.event 0b1#1) = .txisr := by decide

/-! ## One micro-step of each operation (spec/95_test_vectors.md, part 2) -/

/-- D-L7, the arithmetic of `B1`. -/
theorem test_lineConfig_D_L7 :
    (lineConfig 8000000 115200).d = 1111 ∧ (lineConfig 8000000 115200).div = 4 ∧
    (lineConfig 8000000 115200).os = true := by decide

/-- D-L2, micro-step `B3`. -/
theorem test_begin_programs_line (m : Nat) :
    exec (.begin 9600)
      { hostAt .b3 .begin with
        host := { (hostAt .b3 .begin).host with line := { d := 13333, div := 52, mod := m, os := true } } } =
    .next
      { hostAt .b4 .begin with
        host := { (hostAt .b4 .begin).host with line := { d := 13333, div := 52, mod := m, os := true } }
        periph := { State.reset.periph with brdiv := 52, mod := m, os16 := true } } := by rfl

/-- D-L13: `BEGIN` with `TXIE = 1`. -/
theorem test_begin_refused_in_flight :
    refusalOf (exec (.begin 9600) { State.reset with tx := fifoAt 1 1, txie := true }) =
      some .trafficInFlight := by decide

/-- D-L10, micro-step `E3`. -/
theorem test_end_clears_rx :
    (nextOf (exec .end_
      { hostAt .e3 .end_ with
        host := { (hostAt .e3 .end_).host with ptr := 9 }, tx := fifoAt 4 4, rx := fifoAt 9 4 })).map
      (fun t => (t.rx, t.tx, t.host.phase)) = some (fifoAt 9 9, fifoAt 4 4, .idle) := by decide

/-- D-L11, micro-step `E1`. -/
theorem test_end_spins :
    (nextOf (exec .end_ { hostAt .e1 .end_ with tx := fifoAt 4 2, rx := fifoAt 1 0 })).map
      (fun t => (t.rx, t.host.phase)) = some (fifoAt 1 0, .e1) := by decide

/-- D-R6, micro-step `A1`. -/
theorem test_available_wrapped :
    (nextOf (exec .available { hostAt .a1 .available with rx := fifoAt 2 14 })).map (·.replies) =
      some [{ op := .available, word := some 0x0004 }] := by decide

/-- D-R11, micro-step `K2`: a byte `FF` is 255, not the sentinel. -/
theorem test_peek_unsigned :
    (nextOf (exec .peek { hostAt .k2 .peek with rx := fifoAt 1 0 [(0, 0xFF)] })).map
      (fun t => (t.replies, t.rx)) =
      some ([{ op := .peek, word := some 0x00FF }], fifoAt 1 0 [(0, 0xFF)]) := by decide

/-- D-R10, micro-step `K1`. -/
theorem test_peek_empty :
    (nextOf (exec .peek { hostAt .k1 .peek with rx := fifoAt 7 7 })).map (·.replies) =
      some [{ op := .peek, word := some 0xFFFF }] := by decide

/-- D-R14, micro-step `D3`: `tail` wraps, and `80` is 128. -/
theorem test_read_wraps :
    (nextOf (exec .read
      { hostAt .d3 .read with
        host := { (hostAt .d3 .read).host with byte := 0x80 }, rx := fifoAt 3 15 [(15, 0x80)] })).map
      (fun t => (t.replies, t.rx.head, t.rx.tail)) =
      some ([{ op := .read, word := some 0x0080 }], 3, 0) := by decide

/-- D-R13, micro-step `D1`. -/
theorem test_read_empty :
    (nextOf (exec .read { hostAt .d1 .read with rx := fifoAt 1 1 })).map (fun t => (t.replies, t.rx)) =
      some ([{ op := .read, word := some 0xFFFF }], fifoAt 1 1) := by decide

/-- D-T2, micro-step `W2`: the byte goes to slot 15. -/
theorem test_write_stores :
    (nextOf (exec (.write 0)
      { hostAt .w2 .write with
        host := { (hostAt .w2 .write).host with nxt := 0 }, tx := fifoAt 15 3 })).map
      (fun t => (t.tx, t.host.phase)) = some (fifoAt 15 3 [(15, 0)], .w3) := by decide

/-- D-T5, micro-step `W1` on a full buffer. -/
theorem test_write_spins :
    (nextOf (exec (.write 0xEE) { hostAt .w1 .write with tx := fifoAt 14 15, txie := true })).map
      (fun t => (t.tx, t.host.phase, t.replies)) = some (fifoAt 14 15, .w1, []) := by decide

/-- D-T11. -/
theorem test_flush_responds :
    (nextOf (exec .flush { hostAt .f1 .flush with tx := fifoAt 3 3 })).map
      (fun t => (t.replies, t.host.phase)) = some ([{ op := .flush, word := none }], .idle) := by decide

/-- D-T12, the first repetition of `F1`. -/
theorem test_flush_spins :
    (nextOf (exec .flush { hostAt .f1 .flush with tx := fifoAt 3 1, txie := true })).map
      (fun t => (t.replies, t.host.phase)) = some ([], .f1) := by decide

/-- D-R3, micro-step `X4`: `head` wraps. -/
theorem test_rxisr_wraps :
    (nextOf (exec .rxisr
      { rxhAt .x4 with rx := fifoAt 15 3 [(15, 0)], rxh := { phase := .x4, byte := 0, nxt := 0 } })).map
      (fun t => (t.rx, t.rxh.phase)) = some (fifoAt 0 3 [(15, 0)], .idle) := by decide

/-- D-R2, micro-step `X2`. -/
theorem test_rxisr_drops :
    (nextOf (exec .rxisr
      { rxhAt .x2 with
        rx := fifoAt 14 15
        ghost := { State.reset.ghost with rxLog := [{ byte := 0x99, fate := .pending }] } })).map
      (fun t => (t.rx, t.rxh.phase, t.ghost.rxLog, t.ghost.rxDrop)) =
      some (fifoAt 14 15, .idle, [{ byte := 0x99, fate := .dropped }], 1) := by decide

/-- D-T8, micro-step `Y5`. -/
theorem test_txisr_disables :
    (nextOf (exec .txisr { txhAt .y5 with tx := fifoAt 1 1 })).map
      (fun t => (t.txie, t.periph.txifg, t.txh.phase)) = some (false, true, .idle) := by decide

/-- D-T10, micro-step `Y4`. -/
theorem test_txisr_hands_over :
    (nextOf (exec .txisr { txhAt .y4 with txh := { phase := .y4, byte := 0x0D } })).map
      (fun t => (t.periph.txbuf, t.periph.txifg, t.txie, t.ghost.txLog)) =
      some (0x0D, false, true, [0x0D]) := by decide

/-- P5: a reserved word, taken from the command port. -/
theorem test_reserved7_refused :
    refusalOf (step (State.reset.withFetchWord 40 0x700000000)) = some .reservedOperation := by decide

/-- D-R15: a second byte overwrites an unread one. -/
theorem test_peRx_overwrites :
    (peRx 0x20 (peRx 0x10 State.reset)).periph.rxbuf = 0x20 := by decide

/-- D-T9: `TXISR` does not start with `TXIE = 0`. -/
theorem test_txisr_not_started :
    nextOf (exec .txisr { State.reset with periph := { State.reset.periph with txifg := true } }) =
      some { State.reset with periph := { State.reset.periph with txifg := true } } := by decide

/-! ## Witnesses of the hypotheses of the obligations

Each theorem is a state and operands that meet the hypotheses of the obligation in its name, one
conjunct or one theorem per clause. -/

theorem witness_StepRunsDecodedOperation :
    (let s := { State.reset with schedule := [.host], program := [0x500000041#35] }
     s.schedule = .host :: [] ∧ s.program = 0x500000041#35 :: [] ∧ s.handlerActive = false ∧
       s.host.phase = .idle) ∧
    (let s := { hostAt .w3 .write with schedule := [.host] }
     s.schedule = .host :: [] ∧ s.handlerActive = false ∧ s.host.phase ≠ .idle) ∧
    (let s := { State.reset with schedule := [.handler 1] }
     s.schedule = .handler 1 :: []) := by decide

theorem witness_PlacedWordIsRunNext : 0x7FFFFFFFF < 2 ^ 35 ∧ ¬ 0x800000000 < 2 ^ 35 := by decide

theorem witness_HostStallsWhileHandlerActive :
    (rxhAt .x1).handlerActive = true ∧ (txhAt .y5).handlerActive = true ∧
    ({ rxhAt .x4 with schedule := [.host] } : State).handlerActive = true ∧
    Instr.flush ≠ .reserved7 ∧ Instr.flush ≠ .rxisr ∧ Instr.flush ≠ .txisr := by decide

theorem witness_IdleHostWaitsForCommandWord :
    let s := { State.reset with schedule := [.host] }
    s.schedule = .host :: [] ∧ s.program = [] ∧ s.host.phase = .idle := by decide

theorem witness_PeripheralStepsSetPendingBits :
    ({ State.reset with schedule := [.peRx 0x41] } : State).schedule = .peRx 0x41 :: [] ∧
    ({ State.reset with schedule := [.peTxe] } : State).schedule = .peTxe :: [] := by decide

theorem witness_HandlerStartsIffEventPending :
    (let s := { rxhAt .idle with periph := { State.reset.periph with rxifg := true } }
     s.rxh.phase = .idle ∧ s.periph.rxifg = true ∧ s.rxie = true) ∧
    (let s := rxhAt .idle
     s.rxh.phase = .idle ∧ (s.periph.rxifg = false ∨ s.rxie = false)) ∧
    (let s := txhAt .idle
     s.txh.phase = .idle ∧ s.periph.txifg = true ∧ s.txie = true) ∧
    (let s := { txhAt .idle with txie := false }
     s.txh.phase = .idle ∧ (s.periph.txifg = false ∨ s.txie = false)) := by decide

theorem witness_AvailableRespondsWithCount :
    let s := { State.reset with rx := fifoAt 14 15 }
    s.handlerActive = false ∧ s.host.phase = .idle := by decide

theorem witness_PeekRespondsWithOldestByte :
    (let s := { State.reset with rx := fifoAt 3 15 [(15, 0x5A)] }
     s.handlerActive = false ∧ s.host.phase = .idle ∧ s.rx.head ≠ s.rx.tail) ∧
    (let s := { State.reset with rx := fifoAt 7 7 }
     s.handlerActive = false ∧ s.host.phase = .idle ∧ s.rx.head = s.rx.tail) := by decide

theorem witness_ReadConsumesOldestByte :
    (let s := { State.reset with rx := fifoAt 3 15 [(15, 0x80)] }
     s.handlerActive = false ∧ s.host.phase = .idle ∧ s.rx.head ≠ s.rx.tail) ∧
    (let s := { State.reset with rx := fifoAt 15 15 }
     s.handlerActive = false ∧ s.host.phase = .idle ∧ s.rx.head = s.rx.tail) := by decide

theorem witness_WriteQueuesByteAndEnablesInterrupt :
    (let s := { State.reset with tx := fifoAt 13 15 }
     s.handlerActive = false ∧ s.host.phase = .idle ∧ s.tx.full = false ∧ s.tx.count = 14) ∧
    (let s := { State.reset with tx := fifoAt 14 15 }
     s.handlerActive = false ∧ s.host.phase = .idle ∧ s.tx.full = true) := by decide

theorem witness_FlushRespondsWhenDrained :
    (let s := { State.reset with tx := fifoAt 3 3, txie := true }
     s.handlerActive = false ∧ s.host.phase = .idle ∧ s.tx.head = s.tx.tail) ∧
    (let s := { State.reset with tx := fifoAt 0 15, txie := true }
     s.handlerActive = false ∧ s.host.phase = .idle ∧ s.tx.head ≠ s.tx.tail) := by decide

theorem witness_EndDiscardsUnreadBytes :
    (let s := { State.reset with tx := fifoAt 4 4, rx := fifoAt 14 15 }
     s.handlerActive = false ∧ s.host.phase = .idle ∧ s.tx.head = s.tx.tail ∧ s.rx.count = 15) ∧
    (let s := { State.reset with tx := fifoAt 4 2, txie := true }
     s.handlerActive = false ∧ s.host.phase = .idle ∧ s.tx.head ≠ s.tx.tail) := by decide

theorem witness_BeginProgramsLineAndEnablesReceive :
    let s := { State.reset with rx := fifoAt 4 4 }
    s.handlerActive = false ∧ s.host.phase = .idle ∧ s.trafficInFlight = false ∧ (1 : Arg) ≠ 0 ∧
      (0 : Arg) = 0 := by decide

theorem witness_RxisrStoresReceivedByte :
    let s := { rxhAt .idle with rx := fifoAt 15 5, periph := { State.reset.periph with rxbuf := 7, rxifg := true } }
    s.rxh.phase = .idle ∧ s.periph.rxifg = true ∧ s.rxie = true ∧ s.rx.full = false := by decide

theorem witness_RxisrDropsByteWhenFull :
    let s := { rxhAt .idle with rx := fifoAt 15 0, periph := { State.reset.periph with rxifg := true } }
    s.rxh.phase = .idle ∧ s.periph.rxifg = true ∧ s.rxie = true ∧ s.rx.full = true := by decide

theorem witness_TxisrHandsOverOldestByte :
    let s := { txhAt .idle with tx := fifoAt 2 15 [(15, 0x0D)] }
    s.txh.phase = .idle ∧ s.periph.txifg = true ∧ s.txie = true ∧ s.tx.empty = false := by decide

theorem witness_TxisrDisablesItselfWhenEmpty :
    let s := { txhAt .idle with tx := fifoAt 1 1 }
    s.txh.phase = .idle ∧ s.periph.txifg = true ∧ s.txie = true ∧ s.tx.empty = true := by decide

theorem witness_ReservedOperationIsRefused :
    exec .reserved7 State.reset = .refused .reservedOperation := by rfl

theorem witness_BeginOutsideContractIsRefused :
    (let s := { State.reset with tx := fifoAt 2 1 }
     s.handlerActive = false ∧ s.host.phase = .idle ∧ 0 < s.tx.count) ∧
    (let s := { State.reset with tx := fifoAt 1 1, txie := true }
     s.handlerActive = false ∧ s.host.phase = .idle ∧ s.txie = true ∧ s.tx.count = 0) ∧
    (let s := State.reset
     s.handlerActive = false ∧ s.host.phase = .idle ∧ s.tx.count = 0 ∧ s.txie = false) := by decide

theorem witness_OnlyStatedRefusalsStop :
    exec .reserved7 State.reset = .refused .reservedOperation ∧
    exec (.begin 1) { State.reset with txie := true } = .refused .trafficInFlight ∧
    exec (.begin 0) (hostAt .b1 .begin) = .refused .divisionByZero := ⟨rfl, rfl, rfl⟩

theorem witness_BlockingCommandsSpin :
    (let s := { hostAt .f1 .flush with tx := fifoAt 0 15 }
     s.handlerActive = false ∧ s.host.phase = .f1 ∧ 0 < s.tx.count) ∧
    (let s := { hostAt .e1 .end_ with tx := fifoAt 0 1 }
     s.handlerActive = false ∧ s.host.phase = .e1 ∧ 0 < s.tx.count) ∧
    (let s := { hostAt .w1 .write with tx := fifoAt 15 0 }
     s.handlerActive = false ∧ s.host.phase = .w1 ∧ s.tx.full = true) := by decide

theorem witness_FrameOfReadOnlyCommands :
    (∃ t, exec .available (hostAt .a1 .available) = .next t) ∧
    (∃ t, exec .peek { hostAt .k2 .peek with rx := fifoAt 0 15 [(15, 1)] } = .next t) ∧
    (∃ t, exec .flush (hostAt .f1 .flush) = .next t) := ⟨⟨_, rfl⟩, ⟨_, rfl⟩, ⟨_, rfl⟩⟩

theorem witness_FrameOfReadAndEnd :
    (∃ t, exec .read { hostAt .d3 .read with rx := fifoAt 0 15 } = .next t) ∧
    (∃ t, exec .end_ (hostAt .e3 .end_) = .next t) := ⟨⟨_, rfl⟩, ⟨_, rfl⟩⟩

theorem witness_FrameOfWrite :
    (let s := { hostAt .w2 .write with tx := fifoAt 15 3 }
     (∃ t, exec (.write 7) s = .next t) ∧ (0 : Ptr) ≠ pushSlot .tx s) ∧
    (let s := { hostAt .w3 .write with tx := fifoAt 15 3 }
     (∃ t, exec (.write 7) s = .next t) ∧ s.host.phase ≠ .w2) :=
  ⟨⟨⟨_, rfl⟩, by decide⟩, ⟨⟨_, rfl⟩, by decide⟩⟩

theorem witness_FrameOfBegin : ∃ t, exec (.begin 9600) (hostAt .b5 .begin) = .next t := ⟨_, rfl⟩

theorem witness_FrameOfRxisr :
    (let s := { rxhAt .x3 with rx := fifoAt 15 3 }
     (∃ t, exec .rxisr s = .next t) ∧ (0 : Ptr) ≠ pushSlot .rx s) ∧
    (let s := { rxhAt .x1 with rx := fifoAt 15 3 }
     (∃ t, exec .rxisr s = .next t) ∧ s.rxh.phase ≠ .x3) :=
  ⟨⟨⟨_, rfl⟩, by decide⟩, ⟨⟨_, rfl⟩, by decide⟩⟩

theorem witness_FrameOfTxisr :
    ∃ t, exec .txisr { txhAt .y3 with tx := fifoAt 2 15 } = .next t := ⟨_, rfl⟩

theorem witness_SlotReadAfterSlotWrite :
    ((FifoId.rx, (15 : Ptr)) ≠ (.tx, 15)) ∧ ((FifoId.tx, (0 : Ptr)) ≠ (.tx, 15)) := by decide

theorem witness_PushAppendsOrRejects :
    (({ State.reset with tx := fifoAt 14 15 } : State).fifo .tx).full = true ∧
    (({ State.reset with tx := fifoAt 15 5 } : State).fifo .tx).full = false := by decide

theorem witness_PopReturnsOldestAndPeekKeepsIt :
    (({ State.reset with rx := fifoAt 7 7 } : State).fifo .rx).empty = true ∧
    (({ State.reset with rx := fifoAt 3 15 } : State).fifo .rx).empty = false := by decide

theorem witness_LineConfigArithmetic :
    1000000 < 2 ^ 32 ∧ 0 < 21000 ∧ (lineConfig 1000000 21000).os = false ∧
    0 < 20833 ∧ (lineConfig 1000000 20833).os = true := by decide

/-! ### Whole-machine rules -/

/-- `WRITE 0x41` about to publish its byte. -/
def publishing : State :=
  { hostAt .w3 .write with
    tx := fifoAt 15 3 [(15, 0x41)]
    txie := true
    host := { (hostAt .w3 .write).host with arg := 0x41, nxt := 0 }
    schedule := [.host] }

/-- `READ` about to advance `rx.tail`. -/
def consuming : State :=
  { hostAt .d3 .read with
    rx := fifoAt 3 15 [(15, 0x80)]
    host := { (hostAt .d3 .read).host with byte := 0x80 }
    schedule := [.host] }

/-- `END` about to discard three bytes of four (P4). -/
def discarding : State :=
  { hostAt .e3 .end_ with
    rx := fifoAt 4 0
    host := { (hostAt .e3 .end_).host with ptr := 3 }
    schedule := [.host] }

/-- `RXISR` about to publish its byte. -/
def receiving : State :=
  { rxhAt .x4 with
    rx := fifoAt 15 3 [(15, 0x41)]
    rxh := { phase := .x4, byte := 0x41, nxt := 0 }
    ghost := { State.reset.ghost with rxLog := [{ byte := 0x41, fate := .pending }] }
    schedule := [.handler 0] }

/-- `FLUSH` spinning over two bytes (D-T12). -/
def flushing : State :=
  { hostAt .f1 .flush with
    tx := fifoAt 3 1 [(1, 0x0A), (2, 0x0B)]
    txie := true
    schedule := drainScript 2 ++ [.host] }

/-- `WRITE 0xEE` spinning on a full buffer (D-T4). -/
def saturated : State :=
  { hostAt .w1 .write with
    tx := fifoAt 14 15 [(15, 0x01)]
    txie := true
    host := { (hostAt .w1 .write).host with arg := 0xEE }
    schedule := drainOne ++ [.host, .host, .host, .host] }

theorem inv_publishing : MachineInv publishing := by
  constructor <;>
    simp [MemoryOk, PhaseOk, BeginOk, WriteOk, ReadOk, EndOk, RxisrOk, TxisrOk, GatingOk, LogOk,
      DropCountOk, publishing, hostAt, State.reset, phaseOp] <;> decide

theorem inv_consuming : MachineInv consuming := by
  constructor <;>
    simp [MemoryOk, PhaseOk, BeginOk, WriteOk, ReadOk, EndOk, RxisrOk, TxisrOk, GatingOk, LogOk,
      DropCountOk, consuming, hostAt, State.reset, phaseOp] <;> decide

theorem inv_discarding : MachineInv discarding := by
  constructor <;>
    simp [MemoryOk, PhaseOk, BeginOk, WriteOk, ReadOk, EndOk, RxisrOk, TxisrOk, GatingOk, LogOk,
      DropCountOk, discarding, hostAt, State.reset, phaseOp] <;> decide

theorem inv_receiving : MachineInv receiving := by
  constructor <;>
    simp [MemoryOk, PhaseOk, BeginOk, WriteOk, ReadOk, EndOk, RxisrOk, TxisrOk, GatingOk, LogOk,
      DropCountOk, receiving, rxhAt, State.reset, phaseOp] <;> decide

theorem inv_flushing : MachineInv flushing := by
  constructor <;>
    simp [MemoryOk, PhaseOk, BeginOk, WriteOk, ReadOk, EndOk, RxisrOk, TxisrOk, GatingOk, LogOk,
      DropCountOk, flushing, hostAt, State.reset, phaseOp]
  decide

theorem inv_saturated : MachineInv saturated := by
  constructor <;>
    simp [MemoryOk, PhaseOk, BeginOk, WriteOk, ReadOk, EndOk, RxisrOk, TxisrOk, GatingOk, LogOk,
      DropCountOk, saturated, hostAt, State.reset, phaseOp]
  decide

theorem witness_EveryStepKeepsInvariant :
    (MachineInv publishing ∧ ∃ t, step publishing = .next t) ∧
    (MachineInv receiving ∧ ∃ t, step receiving = .next t) :=
  ⟨⟨inv_publishing, _, rfl⟩, inv_receiving, _, rfl⟩

/-- A run that has pushed nothing: the reset state with a word and a turn to come. -/
theorem witness_QueuedDataNeverStranded :
    Reachable { State.reset with program := [0x500000041], schedule := [.host] } ∧
    ({ State.reset with program := [0x500000041], schedule := [.host] } : State).host.phase ≠ .w4 :=
  ⟨.start _ _, by decide⟩

/-- The step that grows the stream, and one that does not. -/
theorem witness_TransmitOrderIsKept :
    (MachineInv publishing ∧ ∃ t, step publishing = .next t ∧ t.host.phase = .w4) ∧
    (MachineInv consuming ∧ ∃ t, step consuming = .next t ∧ t.host.phase = .idle) :=
  ⟨⟨inv_publishing, _, rfl, rfl⟩, inv_consuming, _, rfl, rfl⟩

/-- One state for each of the four cases. -/
theorem witness_ReceiveOrderIsKept :
    (MachineInv receiving ∧ receiving.rxh.phase = .x4 ∧ ∃ t, step receiving = .next t) ∧
    (MachineInv consuming ∧ consuming.host.phase = .d3 ∧ ∃ t, step consuming = .next t) ∧
    (MachineInv discarding ∧ discarding.host.phase = .e3 ∧ ∃ t, step discarding = .next t) ∧
    (MachineInv publishing ∧ publishing.host.phase = .w3 ∧ ∃ t, step publishing = .next t) :=
  ⟨⟨inv_receiving, rfl, _, rfl⟩, ⟨inv_consuming, rfl, _, rfl⟩, ⟨inv_discarding, rfl, _, rfl⟩,
    inv_publishing, rfl, _, rfl⟩

theorem witness_EachPointerHasOneWriter :
    (∃ t, step receiving = .next t ∧ t.rx.head ≠ receiving.rx.head) ∧
    (let s := { rxhAt .x3 with schedule := [.handler 0] }
     ∃ t, step s = .next t ∧ t.rx.buf ≠ s.rx.buf) ∧
    (∃ t, step consuming = .next t ∧ t.rx.tail ≠ consuming.rx.tail) ∧
    (∃ t, step publishing = .next t ∧ t.tx.head ≠ publishing.tx.head) ∧
    (let s := { hostAt .w2 .write with schedule := [.host] }
     ∃ t, step s = .next t ∧ t.tx.buf ≠ s.tx.buf) ∧
    (let s := { txhAt .y3 with tx := fifoAt 1 0, schedule := [.handler 1] }
     ∃ t, step s = .next t ∧ t.tx.tail ≠ s.tx.tail) :=
  ⟨⟨_, rfl, by decide⟩, ⟨_, rfl, by decide⟩, ⟨_, rfl, by decide⟩, ⟨_, rfl, by decide⟩,
    ⟨_, rfl, by decide⟩, _, rfl, by decide⟩

theorem witness_PointersOnlyAdvance :
    (MachineInv publishing ∧ ∃ t, step publishing = .next t ∧ t.tx.head = publishing.tx.head + 1) ∧
    (MachineInv discarding ∧ ∃ t, step discarding = .next t ∧ t.rx.tail = 3) :=
  ⟨⟨inv_publishing, _, rfl, rfl⟩, inv_discarding, _, rfl, rfl⟩

theorem witness_EnablesChangeOnlyAsStated :
    (let s := { hostAt .b5 .begin with schedule := [.host] }
     ∃ t, step s = .next t ∧ t.rxie ≠ s.rxie) ∧
    (let s := { hostAt .w4 .write with schedule := [.host] }
     ∃ t, step s = .next t ∧ t.txie ≠ s.txie) ∧
    (let s := { txhAt .y5 with schedule := [.handler 1] }
     ∃ t, step s = .next t ∧ t.txie ≠ s.txie) ∧
    ((hostAt .b5 .begin).handlerActive = false ∧ (hostAt .b5 .begin).host.phase = .b5) ∧
    (publishing.handlerActive = false ∧ publishing.host.phase = .w3) ∧
    ((txhAt .y1).txh.phase = .y1 ∧ (txhAt .y1).tx.empty = true) :=
  ⟨⟨_, rfl, by decide⟩, ⟨_, rfl, by decide⟩, ⟨_, rfl, by decide⟩, by decide, by decide, by decide⟩

theorem witness_PendingBitsClearedOnlyByAccess :
    (let s := { rxhAt .x1 with
                  periph := { State.reset.periph with rxifg := true }, schedule := [.handler 0] }
     s.periph.rxifg = true ∧ ∃ t, step s = .next t ∧ t.periph.rxifg = false) ∧
    (let s := { txhAt .y4 with schedule := [.handler 1] }
     s.periph.txifg = true ∧ ∃ t, step s = .next t ∧ t.periph.txifg = false) :=
  ⟨⟨rfl, _, rfl, rfl⟩, rfl, _, rfl, rfl⟩

theorem witness_GhostValuesAreNeverRead :
    (∃ t, exec .txisr (txhAt .y4) = .next t) ∧
    exec .reserved7 State.reset = .refused .reservedOperation := ⟨⟨_, rfl⟩, rfl⟩

theorem witness_ReceiveSideIgnoresTransmitBuffer :
    (∃ t, exec .rxisr (rxhAt .x3) = .next t) ∧
    (∃ t, exec .available (hostAt .a1 .available) = .next t) ∧
    (∃ t, exec .peek (hostAt .k1 .peek) = .next t) ∧
    (∃ t, exec .read { hostAt .d3 .read with rx := fifoAt 1 0 } = .next t) :=
  ⟨⟨_, rfl⟩, ⟨_, rfl⟩, ⟨_, rfl⟩, _, rfl⟩

theorem witness_TransmitSideIgnoresReceiveBuffer :
    (∃ t, exec .txisr (txhAt .y4) = .next t) ∧
    (∃ t, exec (.write 7) (hostAt .w2 .write) = .next t) ∧
    (∃ t, exec .flush (hostAt .f1 .flush) = .next t) ∧
    (∃ t, exec (.begin 9600) State.reset = .next t) :=
  ⟨⟨_, rfl⟩, ⟨_, rfl⟩, ⟨_, rfl⟩, _, rfl⟩

/-- The end of P1: `TXIFG` is 1 with `TXIE = 0`. -/
theorem witness_FinishedRunIsQuiet :
    let s := { State.reset with
                 rxie := true, rx := fifoAt 1 1, tx := fifoAt 1 1
                 periph := { State.reset.periph with txifg := true }, schedule := [.handler 1] }
    runOver s = true ∧ s.schedule = .handler 1 :: [] := by decide

theorem witness_FlushRespondsAfterDrain :
    MachineInv flushing ∧ flushing.host.phase = .f1 ∧ flushing.handlerActive = false ∧
    flushing.tx.count = 2 ∧ flushing.schedule = drainScript flushing.tx.count ++ .host :: [] :=
  ⟨inv_flushing, rfl, rfl, rfl, rfl⟩

theorem witness_WriteRespondsAfterOneSlotIsFreed :
    MachineInv saturated ∧ saturated.host.phase = .w1 ∧ saturated.handlerActive = false ∧
    saturated.tx.full = true ∧
    saturated.schedule = drainOne ++ .host :: .host :: .host :: .host :: [] :=
  ⟨inv_saturated, rfl, rfl, rfl, rfl⟩

/-- The peripheral never takes `PE_TXE` (D-T5): a handler turn and a received byte fall; `RXISR` is active
in the first state. -/
theorem witness_WriteHangsOnStalledPeripheral :
    (let s := { saturated with
                  rxie := true, rxh := { State.reset.rxh with phase := .x2 }, schedule := [.handler 0] }
     WriteStalled s ∧ s.nextTurn.1 ≠ .peTxe) ∧
    (let s := { saturated with schedule := [.peRx 7, .handler 1, .handler 0, .host] ++ [.peTxe] }
     WriteStalled s ∧ .peTxe ∉ [Turn.peRx 7, .handler 1, .handler 0, .host] ∧
       s.schedule = [.peRx 7, .handler 1, .handler 0, .host] ++ [.peTxe]) ∧
    (let s := { saturated with schedule := List.replicate 3 .host ++ [.peTxe] }
     PhaseOk s ∧ s.host.phase = .w1 ∧ s.handlerActive = false ∧ s.tx.full = true ∧
       s.schedule = List.replicate 3 .host ++ [.peTxe]) := by decide

end Sys2Proof.Tests
end

