-- ==== Sys2Proof/Proofs/Scope.lean ====
section
/-! PROOF. The statements of the family spec/00_scope.md. -/

namespace Sys2Proof.Machine

/-- A write is seen through no other (buffer, slot) pair: two pairs differ in the buffer, and the two
buffers are apart (R68), or in the slot of the one buffer (R11). -/
theorem memRead_memWrite_other {f g : FifoId} {i j : Ptr} (h : (g, j) ≠ (f, i)) (v : Byte) (s : State) :
    memRead g j (memWrite f i v s) = memRead g j s := by
  by_cases hFifo : g = f
  · subst hFifo
    have hSlot : j ≠ i := fun hEq => h (by rw [hEq])
    exact memRead_memWrite_other_slot g hSlot v s
  · exact memRead_memWrite_other_fifo hFifo i j v s

/-- Settles O35, by the laws of one slot read after one slot write. -/
theorem slotReadAfterSlotWrite : Obligations.SlotReadAfterSlotWrite :=
  fun f i v s => ⟨memRead_memWrite_same f i v s, fun _ _ h => memRead_memWrite_other h v s⟩

end Sys2Proof.Machine
end

