-- ==== Sys2Proof/Proofs/State.lean ====
section
/-! PROOF. The statements of the family spec/10_state.md. -/

namespace Sys2Proof.Machine

open Sys2Proof.Safety

/-! ## Who writes what (R23, R31, R32, R42, R44) -/

section Inversion

variable {s t : State}

/-- The writers of the receive buffer (R23). -/
theorem Micro.rx_cases (hm : Micro s t) :
    t.rx = s.rx ∨
    (s.rxh.phase = .x3 ∧ t.rx = { s.rx with buf := s.rx.buf.write s.rx.head.toNat s.rxh.byte }) ∨
    (s.rxh.phase = .x4 ∧ t.rx = { s.rx with head := s.rxh.nxt }) ∨
    (s.host.phase = .d3 ∧ t.rx = { s.rx with tail := inc s.rx.tail }) ∨
    (s.host.phase = .e3 ∧ t.rx = { s.rx with tail := s.host.ptr }) := by
  cases hm with
  | x3 hp => exact .inr (.inl ⟨hp, rfl⟩)
  | x4 hp => exact .inr (.inr (.inl ⟨hp, rfl⟩))
  | d3 _ hp => exact .inr (.inr (.inr (.inl ⟨hp, rfl⟩)))
  | e3 _ hp => exact .inr (.inr (.inr (.inr ⟨hp, rfl⟩)))
  | peTxe => exact .inl (peTxe_rx s)
  | _ => exact .inl rfl

/-- The writers of the transmit buffer (R23). -/
theorem Micro.tx_cases (hm : Micro s t) :
    t.tx = s.tx ∨
    (s.host.phase = .w2 ∧
      t.tx = { s.tx with buf := s.tx.buf.write s.tx.head.toNat (byteOfArg s.host.arg) }) ∨
    (s.host.phase = .w3 ∧ t.tx = { s.tx with head := s.host.nxt }) ∨
    (s.txh.phase = .y3 ∧ t.tx = { s.tx with tail := inc s.tx.tail }) := by
  cases hm with
  | w2 _ hp => exact .inr (.inl ⟨hp, rfl⟩)
  | w3 _ hp => exact .inr (.inr (.inl ⟨hp, rfl⟩))
  | y3 hp => exact .inr (.inr (.inr ⟨hp, rfl⟩))
  | peTxe => exact .inl (peTxe_tx s)
  | _ => exact .inl rfl

/-- The writer of `RXIE` (R31). -/
theorem Micro.rxie_cases (hm : Micro s t) :
    t.rxie = s.rxie ∨ (s.host.phase = .b5 ∧ t.rxie = true) := by
  cases hm with
  | b5 _ hp => exact .inr ⟨hp, rfl⟩
  | peTxe => exact .inl (peTxe_rxie s)
  | _ => exact .inl rfl

/-- The writers of `TXIE` (R32). -/
theorem Micro.txie_cases (hm : Micro s t) :
    t.txie = s.txie ∨ (s.host.phase = .w4 ∧ t.txie = true) ∨ (s.txh.phase = .y5 ∧ t.txie = false) := by
  cases hm with
  | w4 _ hp => exact .inr (.inl ⟨hp, rfl⟩)
  | y5 hp => exact .inr (.inr ⟨hp, rfl⟩)
  | peTxe => exact .inl (peTxe_txie s)
  | _ => exact .inl rfl

/-- `RXIFG` is set by `PE_RX` and cleared by the read at `X1` (R41, R42). -/
theorem Micro.rxifg_cases (hm : Micro s t) :
    t.periph.rxifg = s.periph.rxifg ∨ t.periph.rxifg = true ∨ s.rxh.phase = .x1 := by
  cases hm with
  | x1 hp => exact .inr (.inr hp)
  | peRx => exact .inr (.inl rfl)
  | peTxe => exact .inl (by simp)
  | _ => exact .inl rfl

/-- `TXIFG` is set by `PE_TXE` and cleared by the write at `Y4`, which logs its byte (R43, R44). -/
theorem Micro.txifg_cases (hm : Micro s t) :
    t.periph.txifg = s.periph.txifg ∨ t.periph.txifg = true ∨
    (s.txh.phase = .y4 ∧ t.ghost.txLog = s.ghost.txLog ++ [t.periph.txbuf]) := by
  cases hm with
  | y4 hp => exact .inr (.inr ⟨hp, rfl⟩)
  | peTxe => exact .inr (.inl (by simp))
  | _ => exact .inl rfl

/-- R23 for the receive buffer. -/
theorem Micro.rx_writers (hm : Micro s t) :
    (t.rx.head ≠ s.rx.head → s.rxh.phase = .x4) ∧ (t.rx.buf ≠ s.rx.buf → s.rxh.phase = .x3) ∧
    (t.rx.tail ≠ s.rx.tail → s.host.phase = .d3 ∨ s.host.phase = .e3) := by
  obtain e | ⟨hp, e⟩ | ⟨hp, e⟩ | ⟨hp, e⟩ | ⟨hp, e⟩ := hm.rx_cases <;> simp_all

/-- R23 for the transmit buffer. -/
theorem Micro.tx_writers (hm : Micro s t) :
    (t.tx.head ≠ s.tx.head → s.host.phase = .w3) ∧ (t.tx.buf ≠ s.tx.buf → s.host.phase = .w2) ∧
    (t.tx.tail ≠ s.tx.tail → s.txh.phase = .y3) := by
  obtain e | ⟨hp, e⟩ | ⟨hp, e⟩ | ⟨hp, e⟩ := hm.tx_cases <;> simp_all

/-- R22 for the receive buffer: the candidate that `X4` publishes is the next slot (R122). -/
theorem Micro.rx_advances (hm : Micro s t) (hx : RxisrOk s) :
    (t.rx.head = s.rx.head ∨ t.rx.head = inc s.rx.head) ∧
    (t.rx.tail = s.rx.tail ∨ t.rx.tail = inc s.rx.tail ∨
      (s.host.phase = .e3 ∧ t.rx.tail = s.host.ptr)) := by
  obtain ⟨_, hNxt, _⟩ := hx
  obtain e | ⟨hp, e⟩ | ⟨hp, e⟩ | ⟨hp, e⟩ | ⟨hp, e⟩ := hm.rx_cases
  · simp [e]
  · simp [e]
  · simp [e, (hNxt (.inr hp)).1]
  · simp [e]
  · simp [e, hp]

/-- R22 for the transmit buffer: the candidate that `W3` publishes is the next slot (R122). -/
theorem Micro.tx_advances (hm : Micro s t) (hw : WriteOk s) :
    (t.tx.head = s.tx.head ∨ t.tx.head = inc s.tx.head) ∧
    (t.tx.tail = s.tx.tail ∨ t.tx.tail = inc s.tx.tail) := by
  obtain ⟨hNxt, _⟩ := hw
  obtain e | ⟨hp, e⟩ | ⟨hp, e⟩ | ⟨hp, e⟩ := hm.tx_cases
  · simp [e]
  · simp [e]
  · simp [e, (hNxt (.inr hp)).1]
  · simp [e]

end Inversion

/-- Settles O46, from the writers of the two buffers. -/
theorem eachPointerHasOneWriter : Obligations.EachPointerHasOneWriter := by
  intro s t h
  obtain ⟨u, ⟨_, _, _, rfl⟩, rfl | hm⟩ := step_next h
  · simp
  · obtain ⟨hRxHead, hRxBuf, hRxTail⟩ := hm.rx_writers
    obtain ⟨hTxHead, hTxBuf, hTxTail⟩ := hm.tx_writers
    exact ⟨hRxHead, hRxBuf, hRxTail, hTxHead, hTxBuf, hTxTail⟩

/-- Settles O47: `inc` is addition of one in 4 bits (R121). -/
theorem pointersOnlyAdvance : Obligations.PointersOnlyAdvance := by
  intro s t hi h
  obtain ⟨u, ⟨_, _, _, rfl⟩, rfl | hm⟩ := step_next h
  · simp
  · obtain ⟨hRxHead, hRxTail⟩ := hm.rx_advances hi.rxisr
    obtain ⟨hTxHead, hTxTail⟩ := hm.tx_advances hi.write
    exact ⟨hRxHead, hRxTail, hTxHead, hTxTail⟩

/-- Settles O48: who writes the enables, then the micro-steps that do write them. -/
theorem enablesChangeOnlyAsStated : Obligations.EnablesChangeOnlyAsStated := by
  refine ⟨fun s t h => ?_, fun s => ⟨?_, ?_, ?_⟩⟩
  · obtain ⟨u, ⟨_, _, _, rfl⟩, rfl | hm⟩ := step_next h
    · simp
    · exact ⟨hm.rxie_cases.resolve_left, hm.txie_cases.resolve_left⟩
  · intro baud hs hp
    exact ⟨_, exec_begin_b5 s baud hs hp, rfl, rfl⟩
  · intro b hs hp
    exact ⟨_, _, exec_write_w3 s b hs hp, exec_write_w4 _ b (by simpa using hs) rfl, rfl, rfl⟩
  · intro hp he
    exact ⟨_, _, exec_txisr_y1_none s hp he, exec_txisr_y5 _ rfl, rfl, rfl⟩

/-- Settles O49, from what writes the two pending bits. -/
theorem pendingBitsClearedOnlyByAccess : Obligations.PendingBitsClearedOnlyByAccess := by
  intro s t h
  obtain ⟨u, ⟨_, _, _, rfl⟩, rfl | hm⟩ := step_next h
  · simp_all
  · constructor
    · intro hOn hOff
      obtain hKept | hSet | hRead := hm.rxifg_cases
      · simp_all
      · simp_all
      · exact hRead
    · intro hOn hOff
      obtain hKept | hSet | hWritten := hm.txifg_cases
      · simp_all
      · simp_all
      · exact hWritten

/-- Settles O1: the reset state, field by field, and both buffers of it. -/
theorem resetLeavesBlockEmptyAndDisabled : Obligations.ResetLeavesBlockEmptyAndDisabled := by
  refine ⟨rfl, rfl, rfl, rfl, ?_, ?_, rfl, rfl, rfl, rfl, rfl, rfl, rfl, rfl⟩
  · intro f
    cases f <;> decide
  · intro f i
    cases f <;> rfl

/-- The turn that the script gives next (R237). -/
theorem step_of_schedule {s : State} {u : Turn} {sch : List Turn} (h : s.schedule = u :: sch) :
    step s = (select u { s with schedule := sch }).outcome := by
  simp [step, State.nextTurn, h]

/-- An idle `HOST` takes the next command word (R94). -/
theorem selectHost_issue {s : State} {w : CommandWord} {ws : List CommandWord}
    (hs : s.handlerActive = false) (hp : s.host.phase = .idle) (hw : s.program = w :: ws) :
    selectHost s = .run (decodeCommand w) { s with program := ws } := by
  simp [selectHost, hs, hp, hw]

/-- A `HOST` with a command in progress goes on with it (R52, R237). -/
theorem selectHost_busy {s : State} (hs : s.handlerActive = false) (hp : s.host.phase ≠ .idle) :
    selectHost s = .run (instrOf s.host.op s.host.arg) s := by
  simp [selectHost, hs, hp]

/-- Settles O7, by what the turn selects. -/
theorem stepRunsDecodedOperation : Obligations.StepRunsDecodedOperation := by
  refine ⟨?_, ?_, ?_⟩
  · intro s w ws sch hsch hprog hs hp
    rw [step_of_schedule hsch]
    exact congrArg Selected.outcome (selectHost_issue (s := { s with schedule := sch }) hs hp hprog)
  · intro s sch hsch hs hp
    rw [step_of_schedule hsch]
    exact congrArg Selected.outcome (selectHost_busy (s := { s with schedule := sch }) hs hp)
  · intro s ev sch hsch
    rw [step_of_schedule hsch]
    rfl

/-- Settles O22: the start, the read at `X1`, and the rejected push at `X2`. -/
theorem rxisrDropsByteWhenFull : Obligations.RxisrDropsByteWhenFull := by
  intro s hp hg he hf
  have hv : s.rxEvent = true := by simp [State.rxEvent, hp, hg, he]
  refine ⟨_, _, exec_rxisr_start s hp hv, exec_rxisr_x1 _ rfl, ?_⟩
  rw [exec_rxisr_x2_drop _ rfl (by simpa [pushRejected] using hf)]
  simp [doneRxh, logDrop, rxhLatchNxt, pushNext, inc, rxhGoto, logArrival, rxhLatchByte, periphReadAck,
    State.fifo]

/-- The buffer is full exactly at the largest distance (R25, R26). -/
theorem dist_eq_fifteen {h t : Ptr} : ptrDist h t = 15 ↔ inc h = t := by revert h t; decide

/-- Settles O36: each flag is the stated relation of the two pointers, and the distance of two pointers
is 0 exactly where they are equal and 15 exactly where the next `head` is `tail`. -/
theorem flagsOfPointers : Obligations.FlagsOfPointers := by
  intro f
  refine ⟨Fifo.empty_eq_true, ?_, rfl, Nat.le_of_lt_succ f.count_lt_cap, ?_, ?_, ?_⟩
  · rw [Fifo.full_eq_true, ← BitVec.toNat_inj, inc_toNat, Config.cap]
  · rw [Fifo.empty_eq_true, Fifo.count_eq_zero]
  · rw [Fifo.full_eq_true, Fifo.count, dist_eq_fifteen]
  · rw [Fifo.empty_eq_true, Fifo.full_eq_true]
    rintro ⟨hEmpty, hFull⟩
    exact inc_ne_self f.head (hFull.trans hEmpty.symm)

/-! ## Ghost values (R50, R272) -/

/-- The state with other ghost values and other past responses. -/
def State.observing (g : Ghost) (rs : List Reply) (s : State) : State := { s with ghost := g, replies := rs }

/-- Two answers that agree in everything but the ghost values and the responses of the next state. -/
def SameButObserved : Result → Result → Prop
  | .next t, r => ∃ g rs, r = .next (t.observing g rs)
  | .refused q, r => r = .refused q
  | .fault _, _ => True

theorem sameButObserved_ite {c : Prop} [Decidable c] {a b a' b' : Result} (ha : SameButObserved a a')
    (hb : SameButObserved b b') : SameButObserved (if c then a else b) (if c then a' else b') := by
  split
  · exact ha
  · exact hb

section Observing

variable (s : State) (g : Ghost) (rs : List Reply)

@[simp] theorem observing_host : (s.observing g rs).host = s.host := rfl
@[simp] theorem observing_rxh : (s.observing g rs).rxh = s.rxh := rfl
@[simp] theorem observing_txh : (s.observing g rs).txh = s.txh := rfl
@[simp] theorem observing_handlerActive : (s.observing g rs).handlerActive = s.handlerActive := rfl
@[simp] theorem observing_trafficInFlight : (s.observing g rs).trafficInFlight = s.trafficInFlight := rfl
@[simp] theorem observing_rxEvent : (s.observing g rs).rxEvent = s.rxEvent := rfl
@[simp] theorem observing_txEvent : (s.observing g rs).txEvent = s.txEvent := rfl
@[simp] theorem observing_fifo (f : FifoId) : (s.observing g rs).fifo f = s.fifo f := by cases f <;> rfl

theorem enterRxh_observing : enterRxh (s.observing g rs) = (enterRxh s).observing g rs :=
  (apply_ite (State.observing g rs) (s.rxEvent = true) (rxhGoto .x1 s) s).symm

theorem enterTxh_observing : enterTxh (s.observing g rs) = (enterTxh s).observing g rs :=
  (apply_ite (State.observing g rs) (s.txEvent = true) (txhGoto .y1 s) s).symm

theorem sameButObserved_unlessPreempted {r r' : Result} (h : SameButObserved r r') :
    SameButObserved (unlessPreempted s r) (unlessPreempted (s.observing g rs) r') := by
  simp only [unlessPreempted, observing_handlerActive]
  exact sameButObserved_ite ⟨g, rs, rfl⟩ h

/-- What an operation tests (phases, flags, its operand) is not observed by the traces, so both runs take
the same branch; and each branch writes to the traces what does not depend on them. -/
theorem exec_sameButObserved (i : Instr) : SameButObserved (exec i s) (exec i (s.observing g rs)) := by
  cases i with
  | begin baud =>
    refine sameButObserved_unlessPreempted s g rs ?_
    simp only [observing_host, observing_trafficInFlight]
    split
    case h_1 => exact sameButObserved_ite rfl ⟨_, _, rfl⟩
    case h_2 => exact sameButObserved_ite rfl ⟨_, _, rfl⟩
    all_goals exact ⟨_, _, rfl⟩
  | available =>
    refine sameButObserved_unlessPreempted s g rs ?_
    simp only [observing_host]
    split <;> exact ⟨_, _, rfl⟩
  | end_ | peek | read | write | flush =>
    refine sameButObserved_unlessPreempted s g rs ?_
    simp only [observing_host, countOf, popNone, pushRejected, observing_fifo]
    split
    case h_2 => exact sameButObserved_ite ⟨_, _, rfl⟩ ⟨_, _, rfl⟩
    all_goals exact ⟨_, _, rfl⟩
  | reserved7 => rfl
  | rxisr =>
    simp only [exec, execRxisr, observing_rxh, pushRejected, observing_fifo]
    split
    case h_1 => exact ⟨g, rs, congrArg _ (enterRxh_observing s g rs)⟩
    case h_3 => exact sameButObserved_ite ⟨_, _, rfl⟩ ⟨_, _, rfl⟩
    all_goals exact ⟨_, _, rfl⟩
  | txisr =>
    simp only [exec, execTxisr, observing_txh, popNone, observing_fifo]
    split
    case h_1 => exact ⟨g, rs, congrArg _ (enterTxh_observing s g rs)⟩
    case h_2 => exact sameButObserved_ite ⟨_, _, rfl⟩ ⟨_, _, rfl⟩
    all_goals exact ⟨_, _, rfl⟩

end Observing

/-- Settles O50: an answer in the one run fixes the answer in the other up to what is observed. -/
theorem ghostValuesAreNeverRead : Obligations.GhostValuesAreNeverRead := by
  intro i s g r
  have h := exec_sameButObserved s g r i
  constructor
  · intro t ht
    rw [ht] at h
    exact h
  · intro q hq
    rw [hq] at h
    exact h

/-! ## The invariant (R50, R51, R69, R70, R131, R175, R191, R197, R200) -/

/-- The invariant says nothing of what is still to be presented to the machine. -/
theorem SameMachine.machineInv {s u : State} (hu : SameMachine s u) (hi : MachineInv s) : MachineInv u := by
  obtain ⟨_, _, _, rfl⟩ := hu
  exact ⟨hi.memory, hi.phase, hi.begin, hi.write, hi.read, hi.end_, hi.rxisr, hi.txisr, hi.gating,
    hi.log, hi.drops⟩

section Invariant

variable {s t : State}

/-- `HOST` steps only between the invocations of the handlers (R233). -/
theorem handlers_idle (hs : s.handlerActive = false) : s.rxh.phase = .idle ∧ s.txh.phase = .idle := by
  simpa [State.handlerActive] using hs

/-- The pop of a byte makes room (R131 (i)). -/
theorem inc_ne_inc {h t : Ptr} (he : h ≠ t) : inc h ≠ inc t := by simpa [inc] using he

/-- A store keeps the canonical form, and no other micro-step writes to a byte array. -/
theorem Micro.memoryOk (hm : Micro s t) (h : MemoryOk s) : MemoryOk t := by
  obtain ⟨hr, ht⟩ := h
  cases hm with
  | w2 => exact ⟨hr, Memory.wf_write _ _ _ ht⟩
  | x3 => exact ⟨Memory.wf_write _ _ _ hr, ht⟩
  | peTxe => simp [MemoryOk, hr, ht]
  | _ => exact ⟨hr, ht⟩

/-- An issue sets the label and the command together (R94), a response goes to idle (R95), and every
other micro-step of `HOST` stays in its command. -/
theorem Micro.phaseOk (hm : Micro s t) (h : PhaseOk s) : PhaseOk t := by
  cases hm with
  | issueBegin | issueEnd | issueAvailable | issuePeek | issueRead | issueWrite | issueFlush =>
    exact .inr rfl
  | b5 | e3 | a1 | k1None | k2 | d1None | d3 | w4 | f1 => exact .inl rfl
  | b1 | b2 | b3 | b4 | e1 | e2 | k1Some | d1Some | d2 | w1Spin | w1Free | w2 | w3 =>
    simp_all [PhaseOk, phaseOp, pushStore, pushPublish]
  | peTxe => simpa [PhaseOk] using h
  | _ => exact h

/-- While `BEGIN` is in progress `TXIE` is 0, so `TXISR` does not run and takes no byte from `tx` (R197). -/
theorem Micro.beginOk (hm : Micro s t) (h : BeginOk s) (hy : TxisrOk s) : BeginOk t := by
  obtain ⟨hQuiet, hLine⟩ := h
  obtain ⟨hOn, _⟩ := hy
  cases hm with
  | issueBegin baud hs hp hc =>
    simp_all [BeginOk, State.trafficInFlight, Fifo.count_eq_zero, Fifo.empty_eq_true]
  | b1 hs hp ha => exact ⟨fun _ => hQuiet (hp ▸ rfl), fun _ => ⟨ha, rfl⟩⟩
  | y3 hp =>
    have hTxie := (hOn (by simp [hp])).1
    exact ⟨fun hb => absurd hTxie (by simp [hQuiet hb]), hLine⟩
  | _ => simp_all [BeginOk, phaseOp, pushStore, pushPublish, popPublish, clearPublish]

/-- The only other agent that writes to `tx` is `TXISR`, whose pop makes room (R131 (i)). -/
theorem Micro.writeOk (hm : Micro s t) (h : WriteOk s) (hy : TxisrOk s) : WriteOk t := by
  obtain ⟨hNxt, hByte⟩ := h
  obtain ⟨_, hSome, _⟩ := hy
  cases hm with
  | w1Free hs hp hf => exact ⟨fun _ => ⟨rfl, hf⟩, by simp⟩
  | w2 hs hp => exact ⟨fun _ => hNxt (.inl hp), fun _ => memRead_memWrite_same .tx s.tx.head _ s⟩
  | x3 => exact ⟨hNxt, hByte⟩
  | y3 hp =>
    have hPop := inc_ne_inc (Fifo.empty_eq_false.mp (hSome (.inr hp)))
    exact ⟨fun hw => ⟨(hNxt hw).1, Fifo.full_eq_false.mpr hPop⟩, hByte⟩
  | _ => simp_all [WriteOk, pushPublish, popPublish, clearPublish]

/-- `RXISR` stores to the slot of `rx.head`, which is not the oldest of a non-empty buffer (R131 (ii)). -/
theorem Micro.readOk (hm : Micro s t) (h : ReadOk s) (hx : RxisrOk s) : ReadOk t := by
  obtain ⟨hSome, hByte⟩ := h
  obtain ⟨_, hNxt, _⟩ := hx
  cases hm with
  | k1Some hs hp he => exact ⟨fun _ => he, by simp⟩
  | d1Some hs hp he => exact ⟨fun _ => he, by simp⟩
  | d2 hs hp => exact ⟨fun _ => hSome (.inr (.inl hp)), fun _ => rfl⟩
  | x3 hp =>
    refine ⟨hSome, fun hd => (hByte hd).trans (memRead_memWrite_other_slot .rx ?_ _ s).symm⟩
    exact (Fifo.empty_eq_false.mp (hSome (.inr (.inr hd)))).symm
  | x4 hp =>
    obtain ⟨hHead, hFull⟩ := hNxt (.inr hp)
    exact ⟨fun _ => Fifo.empty_eq_false.mpr (hHead ▸ Fifo.full_eq_false.mp hFull), hByte⟩
  | _ => simp_all [ReadOk, pushStore, pushPublish, popPublish, clearPublish]

/-- `rx.head` moves on from the sampled pointer, and a drained `tx` gives `TXISR` nothing to take (R200). -/
theorem Micro.endOk (hm : Micro s t) (h : EndOk s) (hx : RxisrOk s) (hy : TxisrOk s) : EndOk t := by
  obtain ⟨hEmpty, hPtr⟩ := h
  obtain ⟨_, hNxt, _⟩ := hx
  obtain ⟨_, hSome, _⟩ := hy
  cases hm with
  | e1 hs hp he => exact ⟨fun _ => Fifo.empty_eq_true.mpr (Fifo.count_eq_zero.mp he), by simp⟩
  | e2 hs hp => exact ⟨fun _ => hEmpty (.inl hp), fun _ => le_rfl⟩
  | x4 hp =>
    obtain ⟨hHead, hFull⟩ := hNxt (.inr hp)
    have hGrow := dist_inc_head (Fifo.full_eq_false.mp hFull)
    exact ⟨hEmpty, fun he => (hPtr he).trans ((Nat.le_succ _).trans (hHead ▸ hGrow.ge))⟩
  | y3 hp =>
    have hne := hSome (.inr hp)
    exact ⟨fun he => absurd (hEmpty he) (by simp [hne]), hPtr⟩
  | _ => simp_all [EndOk, pushStore, pushPublish, popPublish, clearPublish]

/-- `HOST`, which moves `rx.tail`, waits while `RXISR` is active (R233). -/
theorem Micro.rxisrOk (hm : Micro s t) (h : RxisrOk s) : RxisrOk t := by
  have hIdle := handlers_idle (s := s)
  obtain ⟨hIe, hNxt, hByte⟩ := h
  cases hm with
  | startRxisr hv => simp_all [RxisrOk, State.rxEvent]
  | x2Keep hp hf => exact ⟨fun _ => hIe (by simp [hp]), fun _ => ⟨rfl, hf⟩, by simp⟩
  | x3 hp =>
    exact ⟨fun _ => hIe (by simp [hp]), fun _ => hNxt (.inl hp),
      fun _ => memRead_memWrite_same .rx s.rx.head _ s⟩
  | _ => simp_all [RxisrOk, pushStore, pushPublish, popPublish, clearPublish]

/-- `HOST`, which moves `tx.head`, waits while `TXISR` is active (R233). -/
theorem Micro.txisrOk (hm : Micro s t) (h : TxisrOk s) : TxisrOk t := by
  have hIdle := handlers_idle (s := s)
  obtain ⟨hIe, hSome, hByte, hEmpty⟩ := h
  cases hm with
  | startTxisr hv => simp_all [TxisrOk, State.txEvent]
  | y1None hp he => exact ⟨fun _ => hIe (by simp [hp]), by simp, by simp, fun _ => he⟩
  | y1Some hp he => exact ⟨fun _ => hIe (by simp [hp]), fun _ => he, by simp, by simp⟩
  | y2 hp => exact ⟨fun _ => hIe (by simp [hp]), fun _ => hSome (.inl hp), fun _ => rfl, by simp⟩
  | x3 => exact ⟨hIe, hSome, hByte, hEmpty⟩
  | _ => simp_all [TxisrOk, pushStore, pushPublish, popPublish, clearPublish]

/-- `TXIE` is cleared at `Y5` alone, where `tx` is empty, and `WRITE` sets it after its publish (R175). -/
theorem Micro.gatingOk (hm : Micro s t) (h : GatingOk s) (hy : TxisrOk s) : GatingOk t := by
  obtain ⟨hOn, _, _, hEmpty⟩ := hy
  cases hm with
  | w2 hs hp => exact fun _ => h (by simp [hp])
  | w3 => exact fun hw => absurd rfl hw
  | w4 => simp [GatingOk]
  | y3 hp =>
    have hTxie := (hOn (by simp [hp])).1
    exact fun _ hStranded => absurd hTxie (by simpa [popPublish] using hStranded.2)
  | y5 hp =>
    have hCount := Fifo.count_eq_zero.mpr (Fifo.empty_eq_true.mp (hEmpty hp))
    simp [GatingOk, hCount]
  | _ => simp_all [GatingOk, pushStore, pushPublish, popPublish, clearPublish]

/-- The log after the end of an invocation: its last entry has its tag too (R50). -/
theorem settleLast_ne_pending {fate : RxFate} {log l : List RxEntry} {e : RxEntry} (hLog : log = l ++ [e])
    (hFate : fate ≠ .pending) (hl : ∀ x ∈ l, x.fate ≠ .pending) :
    ∀ x ∈ settleLast fate log, x.fate ≠ .pending := by
  rw [hLog, settleLast_append]
  simp only [List.mem_append, List.mem_singleton]
  rintro x (hx | rfl)
  · exact hl x hx
  · exact hFate

/-- `X1` appends an entry without its tag, and the end of the invocation gives it one (R50, R151). -/
theorem Micro.logOk (hm : Micro s t) (h : LogOk s) : LogOk t := by
  obtain ⟨hSettled, hOpen⟩ := h
  cases hm with
  | startRxisr hv =>
    have hp : s.rxh.phase = .idle := by simp_all [State.rxEvent]
    exact ⟨fun _ => hSettled (.inl hp), by simp⟩
  | x1 hp => exact ⟨by simp, fun _ => ⟨s.ghost.rxLog, rfl, hSettled (.inr hp)⟩⟩
  | x2Drop hp =>
    obtain ⟨l, hLog, hl⟩ := hOpen (.inl hp)
    exact ⟨fun _ => settleLast_ne_pending hLog (by decide) hl, by simp⟩
  | x2Keep hp => exact ⟨by simp, fun _ => hOpen (.inl hp)⟩
  | x3 hp => exact ⟨by simp, fun _ => hOpen (.inr (.inl hp))⟩
  | x4 hp =>
    obtain ⟨l, hLog, hl⟩ := hOpen (.inr (.inr hp))
    exact ⟨fun _ => settleLast_ne_pending hLog (by decide) hl, by simp⟩
  | peTxe => simpa [LogOk] using And.intro hSettled hOpen
  | _ => exact ⟨hSettled, hOpen⟩

/-- `X2` counts the byte that it drops; an entry without its tag and an accepted one do not count (R50). -/
theorem Micro.dropCountOk (hm : Micro s t) (h : DropCountOk s) (hl : LogOk s) : DropCountOk t := by
  obtain ⟨_, hOpen⟩ := hl
  cases hm with
  | x1 hp => simpa [DropCountOk] using h
  | x2Drop hp hf =>
    obtain ⟨l, hLog, _⟩ := hOpen (.inl hp)
    simp_all [DropCountOk]
  | x4 hp =>
    obtain ⟨l, hLog, _⟩ := hOpen (.inr (.inr hp))
    simp_all [DropCountOk, pushPublish]
  | peTxe => simpa [DropCountOk] using h
  | _ => exact h

/-- Every micro-step keeps the invariant, part by part. -/
theorem Micro.machineInv (hm : Micro s t) (hi : MachineInv s) : MachineInv t where
  memory := hm.memoryOk hi.memory
  phase := hm.phaseOk hi.phase
  begin := hm.beginOk hi.begin hi.txisr
  write := hm.writeOk hi.write hi.txisr
  read := hm.readOk hi.read hi.rxisr
  end_ := hm.endOk hi.end_ hi.rxisr hi.txisr
  rxisr := hm.rxisrOk hi.rxisr
  txisr := hm.txisrOk hi.txisr
  gating := hm.gatingOk hi.gating hi.txisr
  log := hm.logOk hi.log
  drops := hm.dropCountOk hi.drops hi.log

end Invariant

/-- Settles O42: the turn and the command word taken are not part of the invariant, and the micro-step
keeps it. -/
theorem everyStepKeepsInvariant : Obligations.EveryStepKeepsInvariant := by
  intro s t hi h
  obtain ⟨u, hu, rfl | hm⟩ := step_next h
  · exact hu.machineInv hi
  · exact hm.machineInv (hu.machineInv hi)

end Sys2Proof.Machine
end

/-! PROOF. The statements of the family spec/20_memory.md. -/

namespace Sys2Proof.Machine

/-! ## The two buffers are apart (R68, R71, R236) -/

/-- The same answer, with a change made to the next state where there is one. -/
def mapNext (f : State → State) : Result → Result
  | .next t => .next (f t)
  | .fault r => .fault r
  | .refused r => .refused r

@[simp] theorem mapNext_next (f : State → State) (t : State) : mapNext f (.next t) = .next (f t) := rfl

section OtherBuffer

variable (s : State) (q : Fifo)

@[simp] theorem setFifo_handlerActive (f : FifoId) : (s.setFifo f q).handlerActive = s.handlerActive :=
  handlerActive_congr (setFifo_rxh s f q) (setFifo_txh s f q)

/-- The stall of `HOST` (R233) does not depend on what a buffer holds. -/
theorem unlessPreempted_setFifo {f : FifoId} {r r' : Result} (h : r' = mapNext (State.setFifo f q) r) :
    unlessPreempted (s.setFifo f q) r' = mapNext (State.setFifo f q) (unlessPreempted s r) := by
  simp only [unlessPreempted, setFifo_handlerActive, apply_ite (mapNext _), mapNext_next, h]

/-! ### The receive side under another `tx`

What each operation tests is a phase or `rx`, so both runs take the same branch; and no branch reads or
writes `tx`. -/

theorem execRxisr_setFifo_tx : execRxisr (s.setFifo .tx q) = mapNext (State.setFifo .tx q) (execRxisr s) := by
  simp only [execRxisr, setFifo_rxh]
  split
  case h_1 => exact congrArg _ (apply_ite (State.setFifo .tx q) (s.rxEvent = true) (rxhGoto .x1 s) s).symm
  case h_3 => rw [apply_ite (mapNext _)]; rfl
  all_goals rfl

theorem execAvailable_setFifo_tx :
    execAvailable (s.setFifo .tx q) = mapNext (State.setFifo .tx q) (execAvailable s) := by
  refine unlessPreempted_setFifo s q ?_
  simp only [setFifo_host]
  split <;> rfl

theorem execPeek_setFifo_tx : execPeek (s.setFifo .tx q) = mapNext (State.setFifo .tx q) (execPeek s) := by
  refine unlessPreempted_setFifo s q ?_
  simp only [setFifo_host]
  split
  case h_2 => rw [apply_ite (mapNext _)]; rfl
  all_goals rfl

theorem execRead_setFifo_tx : execRead (s.setFifo .tx q) = mapNext (State.setFifo .tx q) (execRead s) := by
  refine unlessPreempted_setFifo s q ?_
  simp only [setFifo_host]
  split
  case h_2 => rw [apply_ite (mapNext _)]; rfl
  all_goals rfl

/-! ### The transmit side and `BEGIN` under another `rx`

The same with the buffers exchanged; the traffic that `BEGIN` tests for is outbound (R197 (a)). -/

theorem execTxisr_setFifo_rx : execTxisr (s.setFifo .rx q) = mapNext (State.setFifo .rx q) (execTxisr s) := by
  simp only [execTxisr, setFifo_txh]
  split
  case h_1 => exact congrArg _ (apply_ite (State.setFifo .rx q) (s.txEvent = true) (txhGoto .y1 s) s).symm
  case h_2 => rw [apply_ite (mapNext _)]; rfl
  all_goals rfl

theorem execWrite_setFifo_rx (b : Byte) :
    execWrite b (s.setFifo .rx q) = mapNext (State.setFifo .rx q) (execWrite b s) := by
  refine unlessPreempted_setFifo s q ?_
  simp only [setFifo_host]
  split
  case h_2 => rw [apply_ite (mapNext _)]; rfl
  all_goals rfl

theorem execFlush_setFifo_rx : execFlush (s.setFifo .rx q) = mapNext (State.setFifo .rx q) (execFlush s) := by
  refine unlessPreempted_setFifo s q ?_
  simp only [setFifo_host]
  split
  case h_2 => rw [apply_ite (mapNext _)]; rfl
  all_goals rfl

theorem execBegin_setFifo_rx (baud : Arg) :
    execBegin baud (s.setFifo .rx q) = mapNext (State.setFifo .rx q) (execBegin baud s) := by
  refine unlessPreempted_setFifo s q ?_
  simp only [setFifo_host]
  split
  case h_1 | h_2 => rw [apply_ite (mapNext _)]; rfl
  all_goals rfl

end OtherBuffer

/-- Settles O51: the answer of each operation of the receive side under another `tx`. -/
theorem receiveSideIgnoresTransmitBuffer : Obligations.ReceiveSideIgnoresTransmitBuffer := by
  intro i s t q hi h
  have hOther : exec i (s.setFifo .tx q) = mapNext (State.setFifo .tx q) (exec i s) := by
    obtain rfl | rfl | rfl | rfl := hi
    · exact execRxisr_setFifo_tx s q
    · exact execAvailable_setFifo_tx s q
    · exact execPeek_setFifo_tx s q
    · exact execRead_setFifo_tx s q
  rw [h] at hOther
  exact hOther

/-- Settles O56: the answer of each operation of the transmit side and of `BEGIN` under another `rx`. -/
theorem transmitSideIgnoresReceiveBuffer : Obligations.TransmitSideIgnoresReceiveBuffer := by
  intro i s t q hi h
  have hOther : exec i (s.setFifo .rx q) = mapNext (State.setFifo .rx q) (exec i s) := by
    obtain rfl | ⟨b, rfl⟩ | rfl | ⟨baud, rfl⟩ := hi
    · exact execTxisr_setFifo_rx s q
    · exact execWrite_setFifo_rx s q b
    · exact execFlush_setFifo_rx s q
    · exact execBegin_setFifo_rx s q baud
  rw [h] at hOther
  exact hOther

end Sys2Proof.Machine

/-! PROOF. The statements of the family spec/30_encoding.md. -/

namespace Sys2Proof

/-- A command word is nothing but its two fields (R91). -/
theorem commandWord_fields (w : CommandWord) : commandWord (opField w) (argField w) = w :=
  BitVec.extractLsb'_append_extractLsb' (w := 3) (len := 32) (x := w)

/-- Settles O4: the operation number and the operand read back from a word made of them, and every word
is made of its two fields. -/
theorem operationNumberDecides : Obligations.OperationNumberDecides := by
  refine ⟨fun arg => ?_, fun w => ⟨opField w, argField w, (commandWord_fields w).symm⟩⟩
  simp [decodeCommand, byteOfArg]

end Sys2Proof

namespace Sys2Proof.Machine

/-- An idle `HOST` with no command word presented has no step to take, whether or not it is stalled (R233,
R261). -/
theorem selectHost_waits {s : State} (hw : s.program = []) (hp : s.host.phase = .idle) :
    selectHost s = .settled s := by
  simp [selectHost, hw, hp]

/-- Settles O10, by what the turn of `HOST` selects. -/
theorem idleHostWaitsForCommandWord : Obligations.IdleHostWaitsForCommandWord := by
  intro s sch hsch hw hp
  rw [step_of_schedule hsch]
  exact congrArg Selected.outcome (selectHost_waits (s := { s with schedule := sch }) hw hp)

/-! ## Refusals (R98, R197) -/

section Refusals

variable {s : State} {q : Refusal}

/-- A stalled `HOST` refuses nothing (R233). -/
theorem unlessPreempted_refused {r : Result} (h : unlessPreempted s r = .refused q) : r = .refused q := by
  unfold unlessPreempted at h
  split at h
  · nomatch h
  · exact h

/-- `BEGIN` refuses at its issue (R197 (a)) or at `B1` (R197 (b)). -/
theorem execBegin_refused {baud : Arg} (h : execBegin baud s = .refused q) :
    (s.host.phase = .idle ∧ s.trafficInFlight = true ∧ q = .trafficInFlight) ∨
    (s.host.phase = .b1 ∧ s.host.arg = 0 ∧ q = .divisionByZero) := by
  have hMicro := unlessPreempted_refused h
  split at hMicro
  case h_1 hp =>
    split at hMicro
    · next hTraffic => cases hMicro; exact .inl ⟨hp, hTraffic, rfl⟩
    · nomatch hMicro
  case h_2 hp =>
    split at hMicro
    · next hZero => cases hMicro; exact .inr ⟨hp, hZero, rfl⟩
    · nomatch hMicro
  all_goals nomatch hMicro

/-- Which operation refuses, where, and why: every branch of the others answers a next state. -/
theorem exec_refused {i : Instr} (h : exec i s = .refused q) :
    (i = .reserved7 ∧ q = .reservedOperation) ∨
    (∃ baud, i = .begin baud ∧ s.host.phase = .idle ∧ s.trafficInFlight = true ∧ q = .trafficInFlight) ∨
    (∃ baud, i = .begin baud ∧ s.host.phase = .b1 ∧ s.host.arg = 0 ∧ q = .divisionByZero) := by
  cases i with
  | begin baud => exact .inr ((execBegin_refused h).imp (⟨baud, rfl, ·⟩) (⟨baud, rfl, ·⟩))
  | reserved7 => cases h; exact .inl ⟨rfl, rfl⟩
  | available =>
    have hMicro := unlessPreempted_refused h
    split at hMicro <;> nomatch hMicro
  | end_ | peek | read | write _ | flush =>
    have hMicro := unlessPreempted_refused h
    split at hMicro
    case h_2 => split at hMicro <;> nomatch hMicro
    all_goals nomatch hMicro
  | rxisr =>
    simp only [exec, execRxisr] at h
    split at h
    case h_3 => split at h <;> nomatch h
    all_goals nomatch h
  | txisr =>
    simp only [exec, execTxisr] at h
    split at h
    case h_2 => split at h <;> nomatch h
    all_goals nomatch h

end Refusals

/-- Settles O27: there is no fault to answer with (R220), and the refusals are those of `exec_refused`. -/
theorem onlyStatedRefusalsStop : Obligations.OnlyStatedRefusalsStop :=
  ⟨fun _ r => r.casesOn, fun _ _ _ => exec_refused⟩

/-- Settles O25: of the three ways to be refused, only that of the reserved operation gives its reason. -/
theorem reservedOperationIsRefused : Obligations.ReservedOperationIsRefused := by
  refine ⟨fun _ => rfl, fun i s h => ?_⟩
  obtain ⟨hReserved, -⟩ | ⟨_, _, _, _, hReason⟩ | ⟨_, _, _, _, hReason⟩ := exec_refused h
  · exact hReserved
  · nomatch hReason
  · nomatch hReason

end Sys2Proof.Machine

/-! PROOF. The statements of the family spec/40_fifo_primitives.md. -/

namespace Sys2Proof.Machine

open Sys2Proof.Safety

/-! ## The byte streams (R130, R159, R178) -/

section Streams

variable {s t : State}

/-- The transmit stream depends on `TXLOG`, the `TXH` sequencer and `tx` alone. -/
theorem txStream_congr (hLog : t.ghost.txLog = s.ghost.txLog) (hSeq : t.txh = s.txh)
    (hLive : live .tx t = live .tx s) : txStream t = txStream s := by
  simp [txStream, inTransit, hLog, hSeq, hLive]

/-- Outside `Y4` no byte is in transit (R178). -/
theorem txStream_of_ne_y4 (h : s.txh.phase ≠ .y4) : txStream s = s.ghost.txLog ++ live .tx s := by
  have hTransit : inTransit s = [] := by
    unfold inTransit
    split
    · next hp => exact absurd hp h
    · rfl
  simp [txStream, hTransit]

/-- At `Y4` the byte in transit is the one in the latch (R173, R178). -/
theorem txStream_of_y4 (h : s.txh.phase = .y4) :
    txStream s = s.ghost.txLog ++ s.txh.byte :: live .tx s := by
  simp [txStream, inTransit, h]

/-- A micro-step of `TXISR` that neither pops nor hands over leaves the stream as it is. -/
theorem txStream_eq_of_ne_y4 (hs : s.txh.phase ≠ .y4) (ht : t.txh.phase ≠ .y4)
    (hLog : t.ghost.txLog = s.ghost.txLog) (hTx : t.tx = s.tx) : txStream t = txStream s := by
  rw [txStream_of_ne_y4 hs, txStream_of_ne_y4 ht, hLog, live_congr (f := .tx) hTx]

/-- The publish at `W3` appends the byte that `W2` stored (R122, R171). -/
theorem txStream_w3 (hp : s.host.phase = .w3) (hw : WriteOk s) :
    txStream (hostGoto .w4 (pushPublish .tx s.host.nxt s)) = txStream s ++ [byteOfArg s.host.arg] := by
  obtain ⟨hNxt, hStored⟩ := hw
  obtain ⟨hHead, hFree⟩ := hNxt (.inr hp)
  have hLive := live_pushPublish .tx s hFree
  rw [fifo_tx, hStored hp, ← hHead] at hLive
  exact (congrArg (_ ++ ·) hLive).trans (List.append_assoc ..).symm

/-- The pop at `Y3` puts the oldest live byte in transit (R173). -/
theorem txStream_y3 (hp : s.txh.phase = .y3) (hy : TxisrOk s) :
    txStream (txhGoto .y4 (popPublish .tx s)) = txStream s := by
  obtain ⟨_, hSome, hLatched, _⟩ := hy
  have hByte : s.txh.byte = popByte .tx s := hLatched hp
  calc txStream (txhGoto .y4 (popPublish .tx s))
      = s.ghost.txLog ++ s.txh.byte :: live .tx (popPublish .tx s) := txStream_of_y4 rfl
    _ = s.ghost.txLog ++ live .tx s := by rw [live_popPublish .tx s (hSome (.inr hp)), hByte]
    _ = txStream s := (txStream_of_ne_y4 (by simp [hp])).symm

/-- `Y4` hands over the byte in transit (R43, R173). -/
theorem txStream_y4 (hp : s.txh.phase = .y4) :
    txStream (doneTxh (periphWrite s.txh.byte s)) = txStream s := by
  calc txStream (doneTxh (periphWrite s.txh.byte s))
      = s.ghost.txLog ++ [s.txh.byte] ++ live .tx s := txStream_of_ne_y4 (by simp)
    _ = s.ghost.txLog ++ s.txh.byte :: live .tx s := (List.append_cons ..).symm
    _ = txStream s := (txStream_of_y4 hp).symm

/-- `W3` appends to the transmit stream, and no other micro-step changes it: the store at `W2` reaches no live
slot (R131), and `TXISR` passes bytes on in order. -/
theorem Micro.txStream_cases (hm : Micro s t) (hw : WriteOk s) (hy : TxisrOk s) :
    (s.host.phase = .w3 ∧ t.host.phase = .w4 ∧ txStream t = txStream s ++ [byteOfArg s.host.arg]) ∨
    ((t.host.phase = .w4 → s.host.phase = .w4) ∧ txStream t = txStream s) := by
  cases hm with
  | w3 hs hp => exact .inl ⟨hp, rfl, txStream_w3 hp hw⟩
  | w2 => exact .inr ⟨nofun, txStream_congr rfl rfl (live_pushStore .tx _ s)⟩
  | startTxisr hv =>
    have hIdle : s.txh.phase = .idle := by simp_all [State.txEvent]
    exact .inr ⟨id, txStream_eq_of_ne_y4 (by simp [hIdle]) (by simp) rfl rfl⟩
  | y1None hp | y1Some hp | y2 hp | y5 hp =>
    exact .inr ⟨id, txStream_eq_of_ne_y4 (by simp [hp]) (by simp) rfl rfl⟩
  | y3 hp => exact .inr ⟨id, txStream_y3 hp hy⟩
  | y4 hp => exact .inr ⟨id, txStream_y4 hp⟩
  | peTxe =>
    exact .inr ⟨by simp, txStream_congr (by simp) (peTxe_txh s) (live_congr (peTxe_fifo s .tx))⟩
  | w1Spin | startRxisr | x1 | x2Drop | x2Keep | x3 | x4 | peRx => exact .inr ⟨id, rfl⟩
  | _ => exact .inr ⟨nofun, rfl⟩

/-- The unread bytes grow at `X4` at the end, shrink at `D3` and `E3` from the front, and are the same after
any other micro-step: the store at `X3` reaches no live slot (R130, R131). -/
theorem Micro.unread_cases (hm : Micro s t) (hi : MachineInv s) :
    (s.rxh.phase = .x4 ∧ t.rxh.phase = .idle ∧ live .rx t = live .rx s ++ [s.rxh.byte]) ∨
    (s.host.phase = .d3 ∧ t.host.phase = .idle ∧
      live .rx s = s.host.byte :: live .rx t ∧
        t.replies = s.replies ++ [{ op := s.host.op, word := some (rspOfByte s.host.byte) }]) ∨
    (s.host.phase = .e3 ∧ t.host.phase = .idle ∧
      live .rx t = (live .rx s).drop (ptrDist s.host.ptr s.rx.tail)) ∨
    live .rx t = live .rx s := by
  obtain ⟨_, hNxt, hStored⟩ := hi.rxisr
  obtain ⟨hSome, hLatched⟩ := hi.read
  obtain ⟨_, hPtr⟩ := hi.end_
  cases hm with
  | x4 hp =>
    obtain ⟨hHead, hFree⟩ := hNxt (.inr hp)
    have hLive := live_pushPublish .rx s hFree
    rw [fifo_rx, hStored hp, ← hHead] at hLive
    exact .inl ⟨hp, rfl, hLive⟩
  | d3 hs hp =>
    have hPop := live_popPublish .rx s (hSome (.inr (.inr hp)))
    have hByte : s.host.byte = popByte .rx s := hLatched hp
    rw [← hByte] at hPop
    exact .inr (.inl ⟨hp, rfl, hPop, rfl⟩)
  | e3 hs hp => exact .inr (.inr (.inl ⟨hp, rfl, live_clearPublish .rx s.host.ptr s (hPtr hp)⟩))
  | x3 => exact .inr (.inr (.inr (live_pushStore .rx _ s)))
  | peTxe => exact .inr (.inr (.inr (live_congr (peTxe_fifo s .rx))))
  | _ => exact .inr (.inr (.inr rfl))

/-- At `D3` the command in progress is `READ` (R51). -/
theorem op_of_d3 (h : PhaseOk s) (hp : s.host.phase = .d3) : s.host.op = .read := by
  simpa [PhaseOk, phaseOp, hp, eq_comm] using h

end Streams

/-- Settles O44: the turn and the command word taken are not part of the stream, and of the micro-steps only
`W3` goes from `W3` to `W4`. -/
theorem transmitOrderIsKept : Obligations.TransmitOrderIsKept := by
  intro s t hi h
  obtain ⟨u, hu, hut⟩ := step_next h
  have hInv := hu.machineInv hi
  obtain ⟨_, _, _, rfl⟩ := hu
  obtain rfl | hm := hut
  · rw [if_neg fun ⟨hW3, hW4⟩ => nomatch hW3.symm.trans hW4]
    exact (List.append_nil _).symm
  · obtain ⟨hW3, hW4, hStream⟩ | ⟨hStay, hStream⟩ := hm.txStream_cases hInv.write hInv.txisr
    · rw [if_pos ⟨hW3, hW4⟩]
      exact hStream
    · rw [if_neg fun ⟨hW3, hW4⟩ => nomatch hW3.symm.trans (hStay hW4)]
      exact hStream.trans (List.append_nil _).symm

/-- Settles O45: the turn and the command word taken are not part of `rx`. -/
theorem receiveOrderIsKept : Obligations.ReceiveOrderIsKept := by
  intro s t hi h
  obtain ⟨u, hu, ht⟩ := step_next h
  have hInv := hu.machineInv hi
  obtain ⟨_, _, _, rfl⟩ := hu
  obtain rfl | hm := ht
  · exact .inr (.inr (.inr rfl))
  · obtain hPush | ⟨hp, hIdle, hPop, hReply⟩ | ⟨hp, hIdle, hDrop⟩ | hSame := hm.unread_cases hInv
    · exact .inl hPush
    · rw [op_of_d3 hInv.phase hp] at hReply
      exact .inr (.inl ⟨hp, hIdle, _, hPop, hReply⟩)
    · exact .inr (.inr (.inl ⟨hp, hIdle, _, hDrop⟩))
    · exact .inr (.inr (.inr hSame))

/-! ## Frames of the two producers (R129, R151, R171) -/

/-- The byte array of `f` is as before, or, at the label `p` only, the producer has stored to the slot of its
own pointer (R129). -/
def StoresOnlyAt (f : FifoId) (p : Prop) (s t : State) : Prop :=
  (t.fifo f).buf = (s.fifo f).buf ∨ (p ∧ ∃ v, (t.fifo f).buf = ((pushStore f v s).fifo f).buf)

/-- What reads as before where a producer stores at most to its own slot. -/
theorem StoresOnlyAt.memRead_frame {f : FifoId} {p : Prop} {s t : State} (h : StoresOnlyAt f p s t) :
    (∀ a, a ≠ pushSlot f s → memRead f a t = memRead f a s) ∧
    (¬ p → ∀ a, memRead f a t = memRead f a s) := by
  obtain hKept | ⟨hp, v, hStored⟩ := h
  · exact ⟨fun a _ => memRead_congr_buf hKept a, fun _ a => memRead_congr_buf hKept a⟩
  · exact ⟨fun a ha => (memRead_congr_buf hStored a).trans (memRead_memWrite_other_slot f ha v s),
      fun hn => absurd hp hn⟩

/-- The fields that `WRITE` may change: `tx.buf` at `W2`, `tx.head`, `TXIE`, the sequencer and the responses
of `HOST` (R171). -/
theorem execWrite_writes {b : Byte} {s t : State} (h : execWrite b s = .next t) :
    ∃ buf head txie host replies,
      t = { s with tx := { s.tx with buf := buf, head := head }, txie := txie, host := host,
                   replies := replies } ∧
      StoresOnlyAt .tx (s.host.phase = .w2) s t := by
  obtain rfl | ⟨_, hMicro⟩ := unlessPreempted_next h
  · exact ⟨_, _, _, _, _, rfl, .inl rfl⟩
  split at hMicro
  case h_2 => split at hMicro <;> cases hMicro <;> exact ⟨_, _, _, _, _, rfl, .inl rfl⟩
  case h_3 hp => cases hMicro; exact ⟨_, _, _, _, _, rfl, .inr ⟨hp, _, rfl⟩⟩
  all_goals cases hMicro; exact ⟨_, _, _, _, _, rfl, .inl rfl⟩

/-- Settles O31, from the fields that `WRITE` may change. -/
theorem frameOfWrite : Obligations.FrameOfWrite := by
  intro b s t h
  obtain ⟨_, _, _, _, _, rfl, hStores⟩ := execWrite_writes h
  exact ⟨rfl, rfl, rfl, rfl, rfl, rfl, rfl, rfl, rfl, rfl, rfl, fun _ => rfl, hStores.memRead_frame⟩

/-- The fields that `RXISR` may change: `rx.buf` at `X3`, `rx.head`, `RXIFG`, its sequencer, `RXLOG` and
`RXDROP` (R151). -/
theorem execRxisr_writes {s t : State} (h : execRxisr s = .next t) :
    ∃ buf head rxifg rxh rxLog rxDrop,
      t = { s with rx := { s.rx with buf := buf, head := head },
                   periph := { s.periph with rxifg := rxifg }, rxh := rxh,
                   ghost := { s.ghost with rxLog := rxLog, rxDrop := rxDrop } } ∧
      StoresOnlyAt .rx (s.rxh.phase = .x3) s t := by
  unfold execRxisr at h
  split at h
  case h_1 =>
    cases h
    unfold enterRxh
    split <;> exact ⟨_, _, _, _, _, _, rfl, .inl rfl⟩
  case h_3 => split at h <;> cases h <;> exact ⟨_, _, _, _, _, _, rfl, .inl rfl⟩
  case h_4 hp => cases h; exact ⟨_, _, _, _, _, _, rfl, .inr ⟨hp, _, rfl⟩⟩
  all_goals cases h; exact ⟨_, _, _, _, _, _, rfl, .inl rfl⟩

/-- Settles O33, from the fields that `RXISR` may change. -/
theorem frameOfRxisr : Obligations.FrameOfRxisr := by
  intro s t h
  obtain ⟨_, _, _, _, _, _, rfl, hStores⟩ := execRxisr_writes h
  exact ⟨rfl, rfl, rfl, rfl, rfl, rfl, rfl, rfl, rfl, rfl, rfl, rfl, rfl, fun _ => rfl,
    hStores.memRead_frame⟩

/-! ## The primitives run without interruption (R122 to R126, R130) -/

section Primitives

variable {f : FifoId} {s : State} (b : Byte)

theorem tryPush_of_full (h : (s.fifo f).full = true) : tryPush f b s = (s, false) := by
  simp [tryPush, pushRejected, h]

theorem tryPush_of_not_full (h : (s.fifo f).full = false) :
    tryPush f b s = (pushPublish f (inc (s.fifo f).head) (pushStore f b s), true) := by
  simp [tryPush, pushRejected, pushNext, h]

/-- An accepted byte becomes the newest live one (R122). -/
theorem live_tryPush (h : (s.fifo f).full = false) : live f (tryPush f b s).1 = live f s ++ [b] := by
  have hFull : ((pushStore f b s).fifo f).full = false := by simpa [pushStore, Fifo.full] using h
  have hPublish := live_pushPublish f (pushStore f b s) hFull
  have hByte : memRead f (s.fifo f).head (pushStore f b s) = b := memRead_memWrite_same ..
  have hHead : ((pushStore f b s).fifo f).head = (s.fifo f).head := by simp [pushStore]
  rw [tryPush_of_not_full b h]
  rwa [hHead, hByte, live_pushStore] at hPublish

/-- An accepted push moves `head` alone (R122). -/
theorem tryPush_pointers (h : (s.fifo f).full = false) :
    ((tryPush f b s).1.fifo f).head = inc (s.fifo f).head ∧
    ((tryPush f b s).1.fifo f).tail = (s.fifo f).tail := by
  simp [tryPush_of_not_full b h, pushPublish, pushStore]

/-- An accepted push adds one to the count (R27). -/
theorem count_tryPush (h : (s.fifo f).full = false) :
    ((tryPush f b s).1.fifo f).count = (s.fifo f).count + 1 := by
  obtain ⟨hHead, hTail⟩ := tryPush_pointers b h
  rw [Fifo.count, hHead, hTail]
  exact dist_inc_head (Fifo.full_eq_false.mp h)

theorem tryPop_of_empty (h : (s.fifo f).empty = true) : tryPop f s = (s, none) := by
  simp [tryPop, popNone, h]

theorem tryPop_of_not_empty (h : (s.fifo f).empty = false) :
    tryPop f s = (popPublish f s, some (popByte f s)) := by
  simp [tryPop, popNone, h]

/-- `POP` reports what `PEEKQ` would have (R126). -/
theorem tryPop_snd : (tryPop f s).2 = peekQ f s :=
  apply_ite Prod.snd _ _ _

/-- `PEEKQ` reports the oldest live byte, or none (R126). -/
theorem peekQ_eq_head? : peekQ f s = (live f s).head? := by
  cases h : (s.fifo f).empty with
  | true => simp [peekQ, popNone, h, live_of_empty h]
  | false => simp [peekQ, popNone, h, live_popPublish f s h]

/-- `POP` takes the oldest live byte away, if there is one (R124). -/
theorem live_tryPop : live f (tryPop f s).1 = (live f s).tail := by
  cases h : (s.fifo f).empty with
  | true => simp [tryPop_of_empty h, live_of_empty h]
  | false => simp [tryPop_of_not_empty h, live_popPublish f s h]

/-- A pop that finds a byte moves `tail` alone (R124). -/
theorem tryPop_pointers (h : (s.fifo f).empty = false) :
    ((tryPop f s).1.fifo f).tail = inc (s.fifo f).tail ∧
    ((tryPop f s).1.fifo f).head = (s.fifo f).head := by
  simp [tryPop_of_not_empty h, popPublish]

/-- A pop that finds a byte takes one from the count (R27). -/
theorem count_tryPop (h : (s.fifo f).empty = false) :
    (s.fifo f).count = ((tryPop f s).1.fifo f).count + 1 := by
  obtain ⟨hTail, hHead⟩ := tryPop_pointers h
  rw [Fifo.count, Fifo.count, hTail, hHead]
  exact dist_inc_tail (Fifo.empty_eq_false.mp h)

end Primitives

/-- Settles O37: a rejected push, and an accepted one. -/
theorem pushAppendsOrRejects : Obligations.PushAppendsOrRejects := by
  intro f b s
  refine ⟨tryPush_of_full b, fun h => ?_⟩
  obtain ⟨hHead, hTail⟩ := tryPush_pointers b h
  exact ⟨by rw [tryPush_of_not_full b h], live_tryPush b h, hHead, hTail, count_tryPush b h⟩

/-- Settles O38: what `PEEKQ` reports and `POP` leaves, on an empty buffer and on any other. -/
theorem popReturnsOldestAndPeekKeepsIt : Obligations.PopReturnsOldestAndPeekKeepsIt := by
  intro f s
  refine ⟨peekQ_eq_head?, tryPop_snd, live_tryPop, tryPop_of_empty, fun h => ?_⟩
  exact ⟨count_tryPop h, tryPop_pointers h⟩

/-! ### Runs of pushes and of pops -/

/-- A full buffer has no room (R25, R26). -/
theorem room_of_full {q : Fifo} (h : q.full = true) : 15 - q.count = 0 := by
  have hCount : q.count = 15 := dist_eq_fifteen.mpr (Fifo.full_eq_true.mp h)
  omega

/-- Any other buffer has room for one byte more than it has after a push (R27). -/
theorem room_of_not_full {q : Fifo} (h : q.full = false) : 15 - q.count = 15 - (q.count + 1) + 1 := by
  have hNe : q.count ≠ 15 := dist_eq_fifteen.not.mpr (Fifo.full_eq_false.mp h)
  have hLt : q.count < 16 := q.count_lt_cap
  omega

/-- Pushing keeps the first bytes, as many as there is room for, behind those that were there (R123, R130). -/
theorem live_pushAll (f : FifoId) (bs : List Byte) (s : State) :
    live f (pushAll f bs s).1 = live f s ++ bs.take (15 - (s.fifo f).count) := by
  induction bs generalizing s with
  | nil => simp [pushAll]
  | cons b bs ih =>
    simp only [pushAll, ih]
    cases h : (s.fifo f).full with
    | true => simp [tryPush_of_full b h, room_of_full h]
    | false => simp [live_tryPush b h, count_tryPush b h, room_of_not_full h]

/-- Pushing accepts the bytes that it keeps, and rejects the rest (R122, R123). -/
theorem pushAll_accepts (f : FifoId) (bs : List Byte) (s : State) :
    (pushAll f bs s).2 = (List.range bs.length).map fun k => decide (k < 15 - (s.fifo f).count) := by
  induction bs generalizing s with
  | nil => rfl
  | cons b bs ih =>
    simp only [pushAll, ih, List.length_cons, List.range_succ_eq_map, List.map_cons, List.map_map]
    cases h : (s.fifo f).full with
    | true => simp [tryPush_of_full b h, room_of_full h]
    | false =>
      rw [room_of_not_full h, ← count_tryPush b h]
      simp [tryPush_of_not_full b h, Function.comp_def]

/-- As many pops as there are live bytes report exactly these, in order (R124, R130). -/
theorem popAll_live (f : FifoId) (s : State) : (popAll f (live f s).length s).2 = (live f s).map some := by
  induction hLive : live f s generalizing s with
  | nil => rfl
  | cons b bs ih =>
    have hRest : live f (tryPop f s).1 = bs := by rw [live_tryPop, hLive, List.tail_cons]
    simp [popAll, tryPop_snd, peekQ_eq_head?, hLive, ih _ hRest]

/-- Settles O39: what a run of pushes keeps and accepts, and what a run of pops reports. -/
theorem fifoOrderAndFullDrop : Obligations.FifoOrderAndFullDrop := by
  intro f bs s
  refine ⟨live_pushAll f bs s, pushAll_accepts f bs s, ?_⟩
  rw [popAll_live, live_pushAll]

end Sys2Proof.Machine

/-! PROOF. The statements of the family spec/41_receive_path.md. -/

namespace Sys2Proof.Machine

/-! ## A host command from its issue to its response (R94, R95, R155 to R157) -/

section Issue

variable {s : State}

/-- The response to a command issued by an idle `HOST` leaves it idle, with the command in its latches and
its reply at the end of the list. -/
theorem respond_accept (hp : s.host.phase = .idle) (op : HostOp) (arg : Arg) (p : HPhase) (w : Option Rsp) :
    respond w (accept op arg p s) =
      { s with
        host := { s.host with op := op, arg := arg }
        replies := s.replies ++ [{ op := op, word := w }] } := by
  simp only [respond, accept, hp]

theorem popNone_rx_eq_false : popNone .rx s = false ↔ s.rx.head ≠ s.rx.tail := Fifo.empty_eq_false

theorem popNone_rx_eq_true : popNone .rx s = true ↔ s.rx.head = s.rx.tail := Fifo.empty_eq_true

end Issue

/-- Settles O14: the issue and `A1`. -/
theorem availableRespondsWithCount : Obligations.AvailableRespondsWithCount := by
  intro s hs hp
  refine ⟨_, exec_available_issue s hs hp, ?_⟩
  rw [exec_available_a1 _ (by simpa using hs) rfl]
  exact congrArg _ (respond_accept hp .available 0 .a1 _)

/-- Settles O15: `K1` and `K2` on a non-empty buffer, and the response at `K1` on an empty one. The latch of
the byte commutes with the issue. -/
theorem peekRespondsWithOldestByte : Obligations.PeekRespondsWithOldestByte := by
  intro s hs hp
  constructor
  · intro hSome
    refine ⟨_, _, exec_peek_issue s hs hp, exec_peek_k1_some _ hs rfl (popNone_rx_eq_false.mpr hSome), ?_⟩
    rw [exec_peek_k2 _ (by simpa using hs) rfl]
    exact congrArg _ (respond_accept (s := latchByte (popByte .rx s) s) hp .peek 0 .k2 _)
  · intro hNone
    refine ⟨_, exec_peek_issue s hs hp, ?_⟩
    rw [exec_peek_k1_none (accept .peek 0 .k1 s) hs rfl (popNone_rx_eq_true.mpr hNone)]
    exact congrArg _ (respond_accept hp .peek 0 .k1 _)

/-- Settles O16: `D1` to `D3` on a non-empty buffer, and the response at `D1` on an empty one. The latch of
the byte and the publish of `rx.tail` commute with the issue. -/
theorem readConsumesOldestByte : Obligations.ReadConsumesOldestByte := by
  intro s hs hp
  constructor
  · intro hSome
    refine ⟨_, _, _, exec_read_issue s hs hp, exec_read_d1_some _ hs rfl (popNone_rx_eq_false.mpr hSome),
      exec_read_d2 _ hs rfl, ?_⟩
    rw [exec_read_d3 _ (by simpa using hs) rfl]
    exact congrArg _
      (respond_accept (s := latchByte (popByte .rx s) (popPublish .rx s)) hp .read 0 .d3 _)
  · intro hNone
    refine ⟨_, exec_read_issue s hs hp, ?_⟩
    rw [exec_read_d1_none (accept .read 0 .d1 s) hs rfl (popNone_rx_eq_true.mpr hNone)]
    exact congrArg _ (respond_accept hp .read 0 .d1 _)

/-! ## An invocation of `RXISR` that finds room (R151) -/

section Push

variable (s : State)

theorem pushStore_rx (b : Byte) :
    pushStore .rx b s = { s with rx := { s.rx with buf := s.rx.buf.write s.rx.head.toNat b } } := rfl

theorem pushPublish_rx (nxt : Ptr) :
    pushPublish .rx nxt s = { s with rx := { s.rx with head := nxt } } := rfl

/-- The end of the invocation gives the entry that `X1` appended its tag (R50). -/
theorem logAccept_of_rxLog {log : List RxEntry} {e : RxEntry} (h : s.ghost.rxLog = log ++ [e]) :
    logAccept s =
      { s with ghost := { s.ghost with rxLog := log ++ [{ e with fate := .accepted }] } } := by
  simp only [logAccept, h, settleLast_append]

end Push

/-- Settles O21: the start, the read at `X1`, the three micro-steps of the push, and the tag of the entry. -/
theorem rxisrStoresReceivedByte : Obligations.RxisrStoresReceivedByte := by
  intro s hp hPending hEnabled hRoom
  have hEvent : s.rxEvent = true := by simp [State.rxEvent, hp, hPending, hEnabled]
  refine ⟨_, _, _, _, exec_rxisr_start s hp hEvent, exec_rxisr_x1 _ rfl,
    exec_rxisr_x2_keep _ rfl hRoom, exec_rxisr_x3 _ rfl, ?_⟩
  rw [exec_rxisr_x4 _ rfl, logAccept_of_rxLog _ rfl]
  simp [pushStore_rx, pushPublish_rx, pushNext, inc, doneRxh, rxhGoto, rxhLatchNxt, rxhLatchByte,
    logArrival, periphReadAck]

/-! ## Frames of the commands that store nothing (R155 to R157, R176, R200, R202) -/

section Frames

variable {i : Instr} {s t : State}

/-- `t` is `s` up to the sequencer of `HOST` and the responses. -/
def OnlyHostChanges (s t : State) : Prop :=
  ∃ host replies, t = { s with host := host, replies := replies }

/-- `t` is `s` up to `rx.tail`, the sequencer of `HOST` and the responses. -/
def OnlyRxTailAndHostChange (s t : State) : Prop :=
  ∃ tail host replies, t = { s with rx := { s.rx with tail := tail }, host := host, replies := replies }

/-- No branch of the read-only commands writes to a shared register. -/
theorem exec_onlyHostChanges (hi : i = .available ∨ i = .peek ∨ i = .flush) (h : exec i s = .next t) :
    OnlyHostChanges s t := by
  cases i with
  | available =>
    obtain rfl | ⟨_, hMicro⟩ := unlessPreempted_next h
    · exact ⟨_, _, rfl⟩
    split at hMicro <;> cases hMicro <;> exact ⟨_, _, rfl⟩
  | peek | flush =>
    obtain rfl | ⟨_, hMicro⟩ := unlessPreempted_next h
    · exact ⟨_, _, rfl⟩
    split at hMicro
    case h_2 => split at hMicro <;> cases hMicro <;> exact ⟨_, _, rfl⟩
    all_goals cases hMicro; exact ⟨_, _, rfl⟩
  | _ => simp at hi

/-- Only `D3` and `E3` write to a shared register, and that is `rx.tail`. -/
theorem exec_onlyRxTailAndHostChange (hi : i = .read ∨ i = .end_) (h : exec i s = .next t) :
    OnlyRxTailAndHostChange s t := by
  cases i with
  | read | end_ =>
    obtain rfl | ⟨_, hMicro⟩ := unlessPreempted_next h
    · exact ⟨_, _, _, rfl⟩
    split at hMicro
    case h_2 => split at hMicro <;> cases hMicro <;> exact ⟨_, _, _, rfl⟩
    all_goals cases hMicro; exact ⟨_, _, _, rfl⟩
  | _ => simp at hi

/-- The two buffers are no part of the sequencer of `HOST`. -/
theorem OnlyHostChanges.fifo (h : OnlyHostChanges s t) (f : FifoId) : t.fifo f = s.fifo f := by
  obtain ⟨_, _, rfl⟩ := h
  cases f <;> rfl

/-- A slot reads the same wherever `rx.tail` points. -/
theorem OnlyRxTailAndHostChange.memRead (h : OnlyRxTailAndHostChange s t) (f : FifoId) (a : Ptr) :
    memRead f a t = memRead f a s := by
  obtain ⟨_, _, _, rfl⟩ := h
  cases f <;> rfl

end Frames

/-- Settles O29: each of the three commands changes at most the sequencer of `HOST` and the responses. -/
theorem frameOfReadOnlyCommands : Obligations.FrameOfReadOnlyCommands := by
  intro i s t hi h
  have hOnly := exec_onlyHostChanges hi h
  have hFifo := hOnly.fifo
  obtain ⟨_, _, rfl⟩ := hOnly
  exact ⟨fun f => by simp only [hFifo, and_self], rfl, rfl, rfl, rfl, rfl, rfl, rfl, rfl, rfl,
    fun f => memRead_congr (hFifo f)⟩

/-- Settles O30: each of the two commands changes at most `rx.tail`, the sequencer of `HOST` and the
responses. -/
theorem frameOfReadAndEnd : Obligations.FrameOfReadAndEnd := by
  intro i s t hi h
  have hOnly := exec_onlyRxTailAndHostChange hi h
  have hRead := hOnly.memRead
  obtain ⟨_, _, _, rfl⟩ := hOnly
  exact ⟨rfl, rfl, rfl, rfl, rfl, rfl, rfl, rfl, rfl, rfl, rfl, rfl, hRead⟩

end Sys2Proof.Machine

/-! PROOF. The statements of the family spec/42_transmit_path.md. -/

namespace Sys2Proof.Machine

open Sys2Proof.Safety

/-! ## `WRITE` (R171) -/

/-- Settles O17: the issue, then `W1` to `W4` with room in `tx`, or the first `W1` without. What `W1` to `W4` do
commutes with the issue. -/
theorem writeQueuesByteAndEnablesInterrupt : Obligations.WriteQueuesByteAndEnablesInterrupt := by
  intro s b hs hp
  constructor
  · intro hRoom
    refine ⟨_, _, _, _, exec_write_issue s b hs hp, exec_write_w1_free _ b hs rfl hRoom,
      exec_write_w2 _ b hs rfl, exec_write_w3 _ b (by simpa using hs) rfl, ?_⟩
    rw [exec_write_w4 _ b (by simpa using hs) rfl]
    simp only [hostGoto_host, latchNxt_host, accept_host, byteOfArg_argOfByte]
    exact congrArg _ (respond_accept (s := setTxie true (latchNxt (pushNext .tx s)
      (pushPublish .tx (pushNext .tx s) (pushStore .tx b s)))) hp .write (argOfByte b) .w4 _)
  · intro hFull
    exact ⟨_, exec_write_issue s b hs hp, exec_write_w1_spin _ b hs rfl hFull⟩

/-! ## `FLUSH` and the spins (R176, R177, R271) -/

theorem countOf_tx_eq_zero {s : State} : countOf .tx s = 0 ↔ s.tx.head = s.tx.tail := Fifo.count_eq_zero

/-- Settles O18: the issue and the first `F1`, on an empty `tx` and on any other. -/
theorem flushRespondsWhenDrained : Obligations.FlushRespondsWhenDrained := by
  intro s hs hp
  constructor
  · intro hNone
    refine ⟨_, exec_flush_issue s hs hp, ?_⟩
    rw [exec_flush_f1 (accept .flush 0 .f1 s) hs rfl (countOf_tx_eq_zero.mpr hNone)]
    exact congrArg _ (respond_accept hp .flush 0 .f1 _)
  · intro hSome
    exact ⟨_, exec_flush_issue s hs hp, rfl,
      exec_flush_f1_spin _ hs rfl (countOf_tx_eq_zero.not.mpr hSome)⟩

/-- Settles O28: the spin of each of the three commands. -/
theorem blockingCommandsSpin : Obligations.BlockingCommandsSpin := by
  intro s hs
  refine ⟨fun hp hSome => ?_, fun hp hSome => ?_, fun b hp hFull => ?_⟩
  · exact exec_flush_f1_spin s hs hp hSome.ne'
  · exact exec_end_e1_spin s hs hp hSome.ne'
  · exact exec_write_w1_spin s b hs hp hFull

/-! ## `TXISR` (R173, R174) -/

theorem txEvent_of_pending {s : State} (hp : s.txh.phase = .idle) (hPending : s.periph.txifg = true)
    (hEnabled : s.txie = true) : s.txEvent = true := by
  simp [State.txEvent, hp, hPending, hEnabled]

theorem popPublish_tx (s : State) :
    popPublish .tx s = { s with tx := { s.tx with tail := inc s.tx.tail } } := rfl

/-- Settles O23: the start, and `Y1` to `Y4`. -/
theorem txisrHandsOverOldestByte : Obligations.TxisrHandsOverOldestByte := by
  intro s hp hPending hEnabled hSome
  refine ⟨_, _, _, _, exec_txisr_start s hp (txEvent_of_pending hp hPending hEnabled),
    exec_txisr_y1_some _ rfl hSome, exec_txisr_y2 _ rfl, exec_txisr_y3 _ rfl, ?_⟩
  rw [exec_txisr_y4 _ rfl]
  simp [popPublish_tx, popByte, popSlot, inc, doneTxh, periphWrite, txhGoto, txhLatchByte, memRead]

/-- Settles O24: the start, `Y1` and `Y5`; with `TXIE` at 0 there is no event to start on. -/
theorem txisrDisablesItselfWhenEmpty : Obligations.TxisrDisablesItselfWhenEmpty := by
  intro s hp hPending hEnabled hNone
  refine ⟨_, _, _, exec_txisr_start s hp (txEvent_of_pending hp hPending hEnabled),
    exec_txisr_y1_none _ rfl hNone, exec_txisr_y5 _ rfl, ?_, ?_⟩
  · simp only [doneTxh, txhGoto, setTxie, ← hp]
  · exact exec_txisr_no_start _ rfl (by simp [State.txEvent])

/-- The fields that `TXISR` may change: `tx.tail`, `TXIE`, `TXBUF`, `TXIFG`, its sequencer and `TXLOG` (R173,
R174). -/
theorem execTxisr_writes {s t : State} (h : execTxisr s = .next t) :
    ∃ tail txie txbuf txifg txh txLog,
      t = { s with tx := { s.tx with tail := tail }, txie := txie,
                   periph := { s.periph with txbuf := txbuf, txifg := txifg }, txh := txh,
                   ghost := { s.ghost with txLog := txLog } } := by
  unfold execTxisr at h
  split at h
  case h_1 =>
    cases h
    unfold enterTxh
    split <;> exact ⟨_, _, _, _, _, _, rfl⟩
  case h_2 => split at h <;> cases h <;> exact ⟨_, _, _, _, _, _, rfl⟩
  all_goals cases h; exact ⟨_, _, _, _, _, _, rfl⟩

/-- Settles O34, from the fields that `TXISR` may change: no byte array is among them. -/
theorem frameOfTxisr : Obligations.FrameOfTxisr := by
  intro s t h
  obtain ⟨_, _, _, _, _, _, rfl⟩ := execTxisr_writes h
  refine ⟨rfl, rfl, rfl, rfl, rfl, rfl, rfl, rfl, rfl, rfl, rfl, rfl, rfl, fun f a => ?_⟩
  cases f <;> rfl

/-! ## The gating contract along every run (R175, R234) -/

/-- The invariant holds after reset, whatever is then presented to the machine. -/
theorem machineInv_reset (program : List CommandWord) (schedule : List Turn) :
    MachineInv { State.reset with program := program, schedule := schedule } where
  memory := ⟨rfl, rfl⟩
  phase := .inl rfl
  begin := by simp [BeginOk, State.reset, phaseOp]
  write := by simp [WriteOk, State.reset]
  read := by simp [ReadOk, State.reset]
  end_ := by simp [EndOk, State.reset]
  rxisr := by simp [RxisrOk, State.reset]
  txisr := by simp [TxisrOk, State.reset]
  gating := by simp [GatingOk, State.reset, Fifo.reset, Fifo.count, dist_self]
  log := by simp [LogOk, State.reset]
  drops := rfl

/-- Every state that some run passes through satisfies the invariant. -/
theorem machineInv_of_reachable {s : State} (h : Reachable s) : MachineInv s := by
  induction h with
  | start program schedule => exact machineInv_reset program schedule
  | step _ hStep ih => exact everyStepKeepsInvariant _ _ ih hStep

/-- Settles O43: the gating contract is a part of the invariant. -/
theorem queuedDataNeverStranded : Obligations.QueuedDataNeverStranded :=
  fun _ h => (machineInv_of_reachable h).gating

/-! ## Runs of a script (R237) -/

section Runs

variable {M : Host.Core} {s t : M.State}

theorem run_succ_of_step (h : M.step s = .next t) (n : Nat) : M.run (n + 1) s = M.run n t := by
  simp only [Host.Core.run, h]

theorem run_add_of_run {m : Nat} (h : M.run m s = .next t) (n : Nat) : M.run (m + n) s = M.run n t := by
  induction m generalizing s with
  | zero =>
    cases h
    rw [Nat.zero_add]
  | succ m ih =>
    rw [Nat.succ_add, Host.Core.run]
    rw [Host.Core.run] at h
    split at h
    · next hStep => exact ih h
    · nomatch h
    · nomatch h

end Runs

/-- The state with another script. -/
def State.scripted (sch : List Turn) (s : State) : State := { s with schedule := sch }

section Script

variable (s : State) (sch : List Turn)

@[simp] theorem scripted_host : (s.scripted sch).host = s.host := rfl
@[simp] theorem scripted_rxh : (s.scripted sch).rxh = s.rxh := rfl
@[simp] theorem scripted_txh : (s.scripted sch).txh = s.txh := rfl

/-- The stall of `HOST` (R233) does not depend on the script. -/
theorem unlessPreempted_scripted {r r' : Result} (h : r' = mapNext (State.scripted sch) r) :
    unlessPreempted (s.scripted sch) r' = mapNext (State.scripted sch) (unlessPreempted s r) := by
  rw [unlessPreempted, unlessPreempted, apply_ite (mapNext _), h]
  rfl

/-- No operation reads or writes the script: with another one in its place both runs take the same branch. -/
theorem exec_scripted (i : Instr) : exec i (s.scripted sch) = mapNext (State.scripted sch) (exec i s) := by
  cases i with
  | begin baud =>
    refine unlessPreempted_scripted s sch ?_
    simp only [scripted_host]
    split
    case h_1 | h_2 => rw [apply_ite (mapNext _)]; rfl
    all_goals rfl
  | available =>
    refine unlessPreempted_scripted s sch ?_
    simp only [scripted_host]
    split <;> rfl
  | end_ | peek | read | write | flush =>
    refine unlessPreempted_scripted s sch ?_
    simp only [scripted_host]
    split
    case h_2 => rw [apply_ite (mapNext _)]; rfl
    all_goals rfl
  | reserved7 => rfl
  | rxisr =>
    simp only [exec, execRxisr, scripted_rxh]
    split
    case h_1 => exact congrArg _ (apply_ite (State.scripted sch) (s.rxEvent = true) (rxhGoto .x1 s) s).symm
    case h_3 => rw [apply_ite (mapNext _)]; rfl
    all_goals rfl
  | txisr =>
    simp only [exec, execTxisr, scripted_txh]
    split
    case h_1 => exact congrArg _ (apply_ite (State.scripted sch) (s.txEvent = true) (txhGoto .y1 s) s).symm
    case h_2 => rw [apply_ite (mapNext _)]; rfl
    all_goals rfl

end Script

section Turns

variable {s t : State} {sch : List Turn}

/-- A turn of `TXH` on a script takes the micro-step that `exec` answers. -/
theorem step_txisr (h : exec .txisr s = .next t) :
    step (s.scripted (.handler 1 :: sch)) = .next (t.scripted sch) := by
  rw [step_of_schedule rfl]
  exact (exec_scripted s sch .txisr).trans (congrArg (mapNext _) h)

/-- A turn of a `HOST` that is busy and not stalled takes the micro-step that `exec` answers. -/
theorem step_busy_host (hs : s.handlerActive = false) (hp : s.host.phase ≠ .idle)
    (h : exec (instrOf s.host.op s.host.arg) s = .next t) :
    step (s.scripted (.host :: sch)) = .next (t.scripted sch) := by
  rw [step_of_schedule rfl]
  refine (congrArg Selected.outcome (selectHost_busy (s := s.scripted sch) hs hp)).trans ?_
  exact (exec_scripted s sch _).trans (congrArg (mapNext _) h)

end Turns

/-- What one round of `drainOne` comes to on a `tx` that holds a byte and has its interrupt enabled: the
oldest byte is handed over. -/
def drained (s : State) : State :=
  { s with
    tx := { s.tx with tail := inc s.tx.tail }
    periph := { s.periph with txbuf := popByte .tx s, txifg := false }
    txh := { phase := .idle, byte := popByte .tx s }
    ghost := { s.ghost with txLog := s.ghost.txLog ++ [popByte .tx s] } }

section Drain

variable {s : State}

/-- One round: `PE_TXE`, then the whole invocation of `TXISR` that `TxisrHandsOverOldestByte` describes. -/
theorem run_drainOne (rest : List Turn) (hp : s.txh.phase = .idle) (hEnabled : s.txie = true)
    (hSome : s.tx.empty = false) :
    Host.Core.run Sys2Proof.core 6 (s.scripted (drainOne ++ rest)) = .next ((drained s).scripted rest) := by
  obtain ⟨s₁, s₂, s₃, s₄, hStart, hY1, hY2, hY3, hY4⟩ :=
    txisrHandsOverOldestByte { s with periph := { s.periph with txifg := true } } hp rfl hEnabled hSome
  have hReady : step (s.scripted (drainOne ++ rest)) =
      .next (State.scripted (drainOne.tail ++ rest) { s with periph := { s.periph with txifg := true } }) := by
    rw [step_of_schedule rfl]
    exact congrArg _ (peTxe_eq _)
  calc Host.Core.run Sys2Proof.core 6 (s.scripted (drainOne ++ rest))
      = Host.Core.run Sys2Proof.core 5 _ := run_succ_of_step hReady 5
    _ = Host.Core.run Sys2Proof.core 4 _ := run_succ_of_step (step_txisr hStart) 4
    _ = Host.Core.run Sys2Proof.core 3 _ := run_succ_of_step (step_txisr hY1) 3
    _ = Host.Core.run Sys2Proof.core 2 _ := run_succ_of_step (step_txisr hY2) 2
    _ = Host.Core.run Sys2Proof.core 1 _ := run_succ_of_step (step_txisr hY3) 1
    _ = Host.Core.run Sys2Proof.core 0 _ := run_succ_of_step (step_txisr hY4) 0

theorem drained_handlerActive (hs : s.handlerActive = false) : (drained s).handlerActive = false := by
  obtain ⟨hRxh, _⟩ := handlers_idle hs
  simp [State.handlerActive, drained, hRxh]

/-- The oldest live byte is the one handed over. -/
theorem live_eq_cons_drained (hSome : s.tx.empty = false) :
    live .tx s = popByte .tx s :: live .tx (drained s) :=
  live_popPublish .tx s hSome

theorem count_eq_drained_add_one (hSome : s.tx.empty = false) : s.tx.count = (drained s).tx.count + 1 :=
  dist_inc_tail (Fifo.empty_eq_false.mp hSome)

/-- A pop makes room. -/
theorem drained_full (hSome : s.tx.empty = false) : (drained s).tx.full = false :=
  Fifo.full_eq_false.mpr (inc_ne_inc (Fifo.empty_eq_false.mp hSome))

theorem tx_empty_eq_false_of_count {n : Nat} (h : s.tx.count = n + 1) : s.tx.empty = false := by
  have hNe : s.tx.count ≠ 0 := by omega
  exact Fifo.empty_eq_false.mpr (Fifo.count_eq_zero.not.mp hNe)

theorem tx_empty_eq_false_of_full (h : s.tx.full = true) : s.tx.empty = false := by
  rw [Fifo.empty_eq_false]
  intro hEmpty
  exact inc_ne_self s.tx.head ((Fifo.full_eq_true.mp h).trans hEmpty.symm)

/-- Outside the window from `W3` to `W4`, `TXIE` is on while there is a byte queued (R175). -/
theorem txie_of_gatingOk (h : GatingOk s) (hp : s.host.phase ≠ .w4) (hSome : 0 < s.tx.count) :
    s.txie = true := by
  simpa [hSome] using h hp

/-- The label of a command in progress names it (R51). -/
theorem op_of_phaseOp {op : HostOp} (h : PhaseOk s) (hp : phaseOp s.host.phase = some op) :
    s.host.op = op := by
  obtain hIdle | hOp := h
  · simp [hIdle, phaseOp] at hp
  · exact Option.some.inj (hOp.symm.trans hp)

end Drain

/-- Round by round: the drained state spins at `F1` as before, with one byte less to hand over. -/
theorem run_flush (rest : List Turn) (n : Nat) (s : State) (hn : s.tx.count = n) (hOp : s.host.op = .flush)
    (hp : s.host.phase = .f1) (hs : s.handlerActive = false) (hEnabled : 0 < n → s.txie = true) :
    ∃ t, Host.Core.run Sys2Proof.core (6 * n + 1) (s.scripted (drainScript n ++ .host :: rest)) = .next t ∧
      t.host.phase = .idle ∧ t.tx.empty = true ∧ t.schedule = rest ∧
      t.replies = s.replies ++ [{ op := .flush, word := none }] ∧
      t.ghost.txLog = s.ghost.txLog ++ live .tx s := by
  induction n generalizing s with
  | zero =>
    have hEmpty : s.tx.empty = true := Fifo.empty_eq_true.mpr (Fifo.count_eq_zero.mp hn)
    have hExec : exec (instrOf s.host.op s.host.arg) s = .next (respond none s) := by
      rw [hOp]
      exact exec_flush_f1 s hs hp hn
    refine ⟨(respond none s).scripted rest, run_succ_of_step (step_busy_host hs (by simp [hp]) hExec) 0,
      rfl, hEmpty, rfl, ?_, ?_⟩
    · exact congrArg (fun op => s.replies ++ [{ op := op, word := none }]) hOp
    · rw [live_of_empty (f := .tx) hEmpty, List.append_nil]
      rfl
  | succ n ih =>
    have hSome := tx_empty_eq_false_of_count hn
    have hTxie := hEnabled n.succ_pos
    have hCount : (drained s).tx.count = n :=
      Nat.succ.inj ((count_eq_drained_add_one hSome).symm.trans hn)
    have hRound := run_drainOne (drainScript n ++ .host :: rest) (handlers_idle hs).2 hTxie hSome
    obtain ⟨t, hRun, hIdle, hEmpty, hRest, hReplies, hLog⟩ :=
      ih (drained s) hCount hOp hp (drained_handlerActive hs) fun _ => hTxie
    refine ⟨t, ?_, hIdle, hEmpty, hRest, hReplies, ?_⟩
    · rw [drainScript, List.append_assoc, show 6 * (n + 1) + 1 = 6 + (6 * n + 1) by omega,
        run_add_of_run hRound, hRun]
    · rw [hLog, live_eq_cons_drained hSome]
      exact List.append_assoc ..

/-- Settles O53: `TXIE` is on where a byte is queued, and each round hands over the oldest. -/
theorem flushRespondsAfterDrain : Obligations.FlushRespondsAfterDrain := by
  intro s rest hi hp hs hsch
  have hOp := op_of_phaseOp hi.phase (op := .flush) (by rw [hp]; rfl)
  have hEnabled := txie_of_gatingOk hi.gating (by simp [hp])
  have hRun := run_flush rest s.tx.count s rfl hOp hp hs hEnabled
  rw [← hsch] at hRun
  exact hRun

/-- What `W1` to `W4` come to where `tx` has room: the byte in `h_arg` is pushed, and `TXIE` is on. -/
def written (s : State) : State :=
  { s with
    tx := { s.tx with buf := s.tx.buf.write s.tx.head.toNat (byteOfArg s.host.arg), head := inc s.tx.head }
    txie := true
    host := { s.host with phase := .idle, nxt := inc s.tx.head }
    replies := s.replies ++ [{ op := s.host.op, word := some rspOne }] }

section Write

variable {s t : State}

theorem pushStore_tx (b : Byte) :
    pushStore .tx b s = { s with tx := { s.tx with buf := s.tx.buf.write s.tx.head.toNat b } } := rfl

theorem pushPublish_tx (nxt : Ptr) :
    pushPublish .tx nxt s = { s with tx := { s.tx with head := nxt } } := rfl

@[simp] theorem pushStore_host (f : FifoId) (b : Byte) (s : State) : (pushStore f b s).host = s.host :=
  memWrite_host ..

@[simp] theorem pushPublish_host (f : FifoId) (nxt : Ptr) (s : State) : (pushPublish f nxt s).host = s.host :=
  setHead_host ..

/-- A turn of `HOST` in the middle of a `WRITE`. -/
theorem step_write {sch : List Turn} (hOp : s.host.op = .write) (hs : s.handlerActive = false)
    (hp : s.host.phase ≠ .idle) (h : exec (.write (byteOfArg s.host.arg)) s = .next t) :
    step (s.scripted (.host :: sch)) = .next (t.scripted sch) :=
  step_busy_host hs hp (by rw [hOp]; exact h)

/-- `W1` to `W4` on four turns of `HOST`. -/
theorem run_write_of_room (rest : List Turn) (hOp : s.host.op = .write) (hp : s.host.phase = .w1)
    (hs : s.handlerActive = false) (hRoom : s.tx.full = false) :
    Host.Core.run Sys2Proof.core 4 (s.scripted (.host :: .host :: .host :: .host :: rest)) =
      .next ((written s).scripted rest) := by
  calc Host.Core.run Sys2Proof.core 4 (s.scripted (.host :: .host :: .host :: .host :: rest))
      = Host.Core.run Sys2Proof.core 3 _ :=
        run_succ_of_step (step_write hOp hs (by simp [hp]) (exec_write_w1_free s _ hs hp hRoom)) 3
    _ = Host.Core.run Sys2Proof.core 2 _ :=
        run_succ_of_step (step_write (by simpa using hOp) (by simpa using hs) (by simp)
          (exec_write_w2 _ _ (by simpa using hs) rfl)) 2
    _ = Host.Core.run Sys2Proof.core 1 _ :=
        run_succ_of_step (step_write (by simpa using hOp) (by simpa using hs) (by simp)
          (exec_write_w3 _ _ (by simpa using hs) rfl)) 1
    _ = Host.Core.run Sys2Proof.core 0 _ :=
        run_succ_of_step (step_write (by simpa using hOp) (by simpa using hs) (by simp)
          (exec_write_w4 _ _ (by simpa using hs) rfl)) 0
    _ = .next ((written s).scripted rest) := by
        simp [Host.Core.run, written, State.scripted, pushStore_tx, pushPublish_tx, pushNext, inc, respond,
          setTxie, hostGoto, latchNxt]

/-- The byte of the `WRITE` becomes the newest live one (R122, R171). -/
theorem live_written (hRoom : s.tx.full = false) :
    live .tx (written s) = live .tx s ++ [byteOfArg s.host.arg] := by
  have hPush := live_tryPush (f := .tx) (byteOfArg s.host.arg) hRoom
  rw [tryPush_of_not_full (f := .tx) _ hRoom] at hPush
  exact hPush

end Write

/-- Settles O54: the round makes room, and `W1` to `W4` then push the byte behind those that are left. -/
theorem writeRespondsAfterOneSlotIsFreed : Obligations.WriteRespondsAfterOneSlotIsFreed := by
  intro s rest hi hp hs hFull hsch
  have hOp := op_of_phaseOp hi.phase (op := .write) (by rw [hp]; rfl)
  have hSome := tx_empty_eq_false_of_full hFull
  have hRoom := drained_full hSome
  have hCount := count_eq_drained_add_one hSome
  have hTxie := txie_of_gatingOk hi.gating (by simp [hp]) (hCount ▸ Nat.succ_pos _)
  have hRound := run_drainOne (.host :: .host :: .host :: .host :: rest) (handlers_idle hs).2 hTxie hSome
  have hWrite := run_write_of_room rest (s := drained s) hOp hp (drained_handlerActive hs) hRoom
  have hRun := (run_add_of_run hRound 4).trans hWrite
  rw [← hsch] at hRun
  refine ⟨_, hRun, rfl, rfl, rfl, ?_, ?_, ?_⟩
  · exact congrArg (fun op => s.replies ++ [{ op := op, word := some rspOne }]) hOp
  · rw [live_eq_cons_drained hSome]
    rfl
  · rw [live_eq_cons_drained hSome]
    exact live_written hRoom

/-! ## A stalled peripheral (R172, R225, R271) -/

/-- A `WRITE` that hangs at `s` hangs at `t` too, and `TXISR` has taken nothing from `tx` in between. -/
def StillStalled (s t : State) : Prop :=
  WriteStalled t ∧ t.tx = s.tx ∧ t.txie = s.txie ∧ t.replies = s.replies ∧ t.ghost.txLog = s.ghost.txLog

theorem StillStalled.trans {s t u : State} (h₁ : StillStalled s t) (h₂ : StillStalled t u) :
    StillStalled s u := by
  obtain ⟨_, hTx₁, hTxie₁, hReplies₁, hLog₁⟩ := h₁
  obtain ⟨hStalled, hTx₂, hTxie₂, hReplies₂, hLog₂⟩ := h₂
  exact ⟨hStalled, hTx₂.trans hTx₁, hTxie₂.trans hTxie₁, hReplies₂.trans hReplies₁, hLog₂.trans hLog₁⟩

section Stalled

variable {s : State}

/-- `HOST` at `W1` on a full `tx` loads its latch again (R171). -/
theorem selectHost_w1_spin (hOk : PhaseOk s) (hp : s.host.phase = .w1) (hs : s.handlerActive = false)
    (hFull : s.tx.full = true) :
    (selectHost s).outcome = .next (latchNxt (pushNext .tx s) s) := by
  have hOp := op_of_phaseOp hOk (op := .write) (by rw [hp]; rfl)
  rw [selectHost_busy hs (by simp [hp]), hOp]
  exact exec_write_w1_spin s _ hs hp hFull

theorem selectHost_stalled (hs : s.handlerActive = true) : selectHost s = .settled s := by
  simp [selectHost, hs]

/-- `RXISR` is never refused (R220, R98). -/
theorem exec_rxisr_answers (s : State) : ∃ t, exec .rxisr s = .next t := by
  cases h : exec .rxisr s with
  | next t => exact ⟨t, rfl⟩
  | fault r => exact r.casesOn
  | refused q =>
    obtain ⟨hi, _⟩ | ⟨_, hi, _⟩ | ⟨_, hi, _⟩ := exec_refused h <;> nomatch hi

/-- No turn but `PE_TXE` ends the hang: `HOST` waits or spins, `RXISR` touches nothing of the transmit side,
`TXISR` has no event to start on, and `PE_RX` sets no bit that it waits for. -/
theorem select_of_writeStalled {u : Turn} (h : WriteStalled s) (hu : u ≠ .peTxe) :
    ∃ t, (select u s).outcome = .next t ∧ StillStalled s t ∧ t.schedule = s.schedule := by
  have ⟨hOk, hp, hFull, hIdle, hReady⟩ := h
  cases u with
  | host =>
    cases hs : s.handlerActive with
    | true =>
      exact ⟨s, congrArg Selected.outcome (selectHost_stalled hs), ⟨h, rfl, rfl, rfl, rfl⟩, rfl⟩
    | false => exact ⟨_, selectHost_w1_spin hOk hp hs hFull, ⟨h, rfl, rfl, rfl, rfl⟩, rfl⟩
  | handler ev =>
    by_cases hEv : ev = 0#1
    · obtain ⟨t, ht⟩ := exec_rxisr_answers s
      have hSelect : (select (.handler ev) s).outcome = .next t := by
        rw [hEv]
        exact ht
      obtain ⟨_, _, _, _, _, _, rfl, _⟩ := execRxisr_writes ht
      exact ⟨_, hSelect, ⟨h, rfl, rfl, rfl, rfl⟩, rfl⟩
    · have hEvent : s.txEvent = false := by simp [State.txEvent, hReady]
      refine ⟨s, ?_, ⟨h, rfl, rfl, rfl, rfl⟩, rfl⟩
      simp only [select, decodeEvent, hEv, if_false]
      exact exec_txisr_no_start s hIdle hEvent
  | peRx b => exact ⟨_, rfl, ⟨h, rfl, rfl, rfl, rfl⟩, rfl⟩
  | peTxe => exact absurd rfl hu

/-- One step of the hang. -/
theorem step_of_writeStalled (h : WriteStalled s) (hu : s.nextTurn.1 ≠ .peTxe) :
    ∃ t, step s = .next t ∧ StillStalled s t ∧ t.schedule = s.nextTurn.2.schedule := by
  obtain ⟨_, _, _, hNext⟩ := nextTurn_sameMachine s
  unfold step
  generalize s.nextTurn.2 = v at hNext ⊢
  subst hNext
  exact select_of_writeStalled h hu

/-- Any script without `PE_TXE`, turn by turn. -/
theorem run_of_writeStalled {turns rest : List Turn} (h : WriteStalled s) (hTurns : .peTxe ∉ turns)
    (hsch : s.schedule = turns ++ rest) :
    ∃ t, Host.Core.run Sys2Proof.core turns.length s = .next t ∧ StillStalled s t ∧ t.schedule = rest := by
  induction turns generalizing s with
  | nil => exact ⟨s, rfl, ⟨h, rfl, rfl, rfl, rfl⟩, hsch⟩
  | cons u us ih =>
    obtain ⟨hu, hus⟩ := not_or.mp (List.mem_cons.not.mp hTurns)
    have hNext : s.nextTurn = (u, s.scripted (us ++ rest)) := by
      simp [State.nextTurn, hsch, State.scripted]
    obtain ⟨t, hStep, hStill, hRest⟩ := step_of_writeStalled h (by rw [hNext]; exact Ne.symm hu)
    rw [hNext] at hRest
    obtain ⟨t', hRun, hStill', hRest'⟩ := ih hStill.1 hus hRest
    exact ⟨t', (run_succ_of_step hStep _).trans hRun, hStill.trans hStill', hRest'⟩

/-- Turns of `HOST` alone only load the latch `h_nxt`. -/
theorem run_host_of_w1 {rest : List Turn} {n : Nat} (hOk : PhaseOk s) (hp : s.host.phase = .w1)
    (hs : s.handlerActive = false) (hFull : s.tx.full = true)
    (hsch : s.schedule = List.replicate n .host ++ rest) :
    ∃ nxt, Host.Core.run Sys2Proof.core n s = .next ((latchNxt nxt s).scripted rest) := by
  induction n generalizing s with
  | zero =>
    obtain rfl : s.schedule = rest := hsch
    exact ⟨s.host.nxt, rfl⟩
  | succ n ih =>
    have hStep : step s =
        .next (latchNxt (pushNext .tx s) (s.scripted (List.replicate n .host ++ rest))) := by
      rw [step_of_schedule hsch]
      exact selectHost_w1_spin hOk hp hs hFull
    obtain ⟨nxt, hRun⟩ :=
      ih (s := latchNxt (pushNext .tx s) (s.scripted (List.replicate n .host ++ rest))) hOk hp hs hFull rfl
    exact ⟨nxt, (run_succ_of_step hStep n).trans hRun⟩

end Stalled

/-- Settles O55: one step, any script without `PE_TXE`, and turns of `HOST` alone. -/
theorem writeHangsOnStalledPeripheral : Obligations.WriteHangsOnStalledPeripheral := by
  refine ⟨?_, ?_, ?_⟩
  · intro s h hu
    obtain ⟨t, hStep, hStill, _⟩ := step_of_writeStalled h hu
    exact ⟨t, hStep, hStill⟩
  · intro s turns rest h hTurns hsch
    obtain ⟨t, hRun, ⟨hStalled, hTx, hTxie, hReplies, hLog⟩, hRest⟩ := run_of_writeStalled h hTurns hsch
    exact ⟨t, hRun, hStalled, hTx, hTxie, hReplies, hLog, hRest⟩
  · intro s n rest hOk hp hs hFull hsch
    exact run_host_of_w1 hOk hp hs hFull hsch

end Sys2Proof.Machine

/-! PROOF. The statements of the family spec/43_line_config.md. -/

namespace Sys2Proof.Machine

/-! ## `END` (R200) -/

/-- Settles O19: the issue and `E1` to `E3` on an empty `tx`, or the first `E1` on any other. The sampled
pointer is `rx.head` itself, so `rx` is empty after `E3`; latch and publish commute with the issue. -/
theorem endDiscardsUnreadBytes : Obligations.EndDiscardsUnreadBytes := by
  intro s hs hp
  constructor
  · intro hNone
    refine ⟨_, _, _, _, exec_end_issue s hs hp, exec_end_e1 _ hs rfl (countOf_tx_eq_zero.mpr hNone),
      exec_end_e2 _ hs rfl, exec_end_e3 _ (by simpa using hs) rfl, ?_, ?_, ?_⟩
    · exact respond_accept (s := latchPtr s.rx.head (clearPublish .rx s.rx.head s)) hp .end_ 0 .e3 none
    · exact Fifo.count_eq_zero.mpr rfl
    · exact live_of_empty (Fifo.empty_eq_true.mpr rfl)
  · intro hSome
    exact ⟨_, exec_end_issue s hs hp, rfl, exec_end_e1_spin _ hs rfl (countOf_tx_eq_zero.not.mpr hSome)⟩

/-! ## `BEGIN` (R191, R197) -/

section Begin

variable {s : State}

/-- Outbound traffic in flight, as R197 (a) words it. -/
theorem trafficInFlight_eq_true : s.trafficInFlight = true ↔ 0 < s.tx.count ∨ s.txie = true := by
  simp [State.trafficInFlight, Nat.pos_iff_ne_zero]

theorem trafficInFlight_eq_false : s.trafficInFlight = false ↔ s.tx.count = 0 ∧ s.txie = false := by
  simp [State.trafficInFlight]

/-- The operand 0 passes the issue and is refused at `B1` (R197 (b)). -/
theorem exec_begin_zero (hs : s.handlerActive = false) (hp : s.host.phase = .idle)
    (hQuiet : s.trafficInFlight = false) :
    ∃ s₁, exec (.begin 0) s = .next s₁ ∧ exec (.begin 0) s₁ = .refused .divisionByZero :=
  ⟨_, exec_begin_issue s 0 hs hp hQuiet, exec_begin_b1_refused _ 0 hs rfl rfl⟩

/-- The end of `BEGIN` with the line configuration `c`: `HOST` is idle again, and the writes of
`B1` to `B5` are left. -/
theorem respond_begin (hp : s.host.phase = .idle) (baud : Arg) (c : LineConfig) :
    respond none (setRxie true (hostGoto .b5 (setSwrst false (hostGoto .b4 (programLine c (hostGoto .b3
      (setSwrst true (hostGoto .b2 (latchLine c (accept .begin baud .b1 s)))))))))) =
      { s with
        rxie := true
        periph := { s.periph with swrst := false, brdiv := c.div, mod := c.mod, os16 := c.os }
        host := { s.host with op := .begin, arg := baud, line := c }
        replies := s.replies ++ [{ op := .begin, word := none }] } := by
  simp only [respond, setRxie, hostGoto, setSwrst, programLine, latchLine, accept, hp]

/-- The fields that `BEGIN` may change: `RXIE`, `SWRST`, `BRDIV`, `MOD`, `OS16`, its sequencer and the
responses (R191). -/
theorem execBegin_writes {baud : Arg} {t : State} (h : execBegin baud s = .next t) :
    ∃ rxie swrst brdiv mod os16 host replies,
      t = { s with rxie := rxie,
                   periph := { s.periph with swrst := swrst, brdiv := brdiv, mod := mod, os16 := os16 },
                   host := host, replies := replies } := by
  obtain rfl | ⟨_, hMicro⟩ := unlessPreempted_next h
  · exact ⟨_, _, _, _, _, _, _, rfl⟩
  split at hMicro
  case h_1 | h_2 =>
    split at hMicro
    · nomatch hMicro
    · cases hMicro; exact ⟨_, _, _, _, _, _, _, rfl⟩
  all_goals cases hMicro; exact ⟨_, _, _, _, _, _, _, rfl⟩

end Begin

/-- Settles O20: the issue and `B1` to `B5`, or the refusal of the operand 0 at `B1`. -/
theorem beginProgramsLineAndEnablesReceive : Obligations.BeginProgramsLineAndEnablesReceive := by
  intro s baud hs hp hQuiet
  constructor
  · intro hBaud
    refine ⟨_, _, _, _, _, exec_begin_issue s baud hs hp hQuiet, exec_begin_b1 _ baud hs rfl hBaud,
      exec_begin_b2 _ baud (by simpa using hs) rfl, exec_begin_b3 _ baud (by simpa using hs) rfl,
      exec_begin_b4 _ baud (by simpa using hs) rfl,
      rfl, rfl, rfl, rfl, by simp, ?_⟩
    rw [exec_begin_b5 _ baud (by simpa using hs) rfl]
    simp only [hostGoto_host, latchLine_host, accept_host, setSwrst_host]
    exact congrArg _ (respond_begin hp baud _)
  · rintro rfl
    exact exec_begin_zero hs hp hQuiet

/-- Settles O26: the refusal at the issue, and the one at `B1`. -/
theorem beginOutsideContractIsRefused : Obligations.BeginOutsideContractIsRefused :=
  ⟨fun s baud hs hp hTraffic =>
      exec_begin_issue_refused s baud hs hp (trafficInFlight_eq_true.mpr hTraffic),
    fun _ hs hp hCount hTxie => exec_begin_zero hs hp (trafficInFlight_eq_false.mpr ⟨hCount, hTxie⟩)⟩

/-- Settles O32, from the fields that `BEGIN` may change: no byte array is among them. -/
theorem frameOfBegin : Obligations.FrameOfBegin := by
  intro baud s t h
  obtain ⟨_, _, _, _, _, _, _, rfl⟩ := execBegin_writes h
  refine ⟨fun f => ?_, rfl, rfl, rfl, rfl, rfl, rfl, rfl, rfl, rfl, rfl, rfl, fun f _ => ?_⟩
  · cases f <;> exact ⟨rfl, rfl⟩
  · cases f <;> rfl

/-! ## The line configuration (R191 to R194, R198) -/

section Line

variable {clk baud : Nat}

/-- `<< 4` is a product by 16 (R191). -/
theorem lineDivisor_eq_ofNat : lineDivisor clk baud = BitVec.ofNat 36 (16 * clk / baud) := by
  rw [lineDivisor, Nat.mul_comm clk]
  rfl

/-- With a clock below `2^32` the 36 bits of `D` lose nothing (R192). -/
theorem lineDivisor_toNat (hClk : clk < 2 ^ 32) : (lineDivisor clk baud).toNat = 16 * clk / baud := by
  have hFits : 16 * clk / baud < 2 ^ 36 :=
    calc 16 * clk / baud ≤ 16 * clk := Nat.div_le_self _ _
      _ < 2 ^ 36 := by omega
  rw [lineDivisor_eq_ofNat, BitVec.toNat_ofNat, Nat.mod_eq_of_lt hFits]

/-- `D[3:0]` is `D` modulo 16 (R194). -/
theorem lineDivisor_lowNibble :
    (lineDivisor clk baud).extractLsb' 0 4 = BitVec.ofNat 4 (16 * clk / baud % 16) := by
  apply BitVec.eq_of_toNat_eq
  rw [lineDivisor_eq_ofNat]
  simp only [BitVec.extractLsb'_toNat, BitVec.toNat_ofNat, Nat.shiftRight_zero]
  omega

/-- `D` in sixteenths gives the ratio back (R192). -/
theorem scaled_div_sixteen : 16 * clk / baud / 16 = lineRatio clk baud := by
  rw [Nat.div_div_eq_div_mul, Nat.mul_comm baud, Nat.mul_div_mul_left _ _ (by decide), lineRatio]

/-- The oversampling mode (R193). -/
theorem lineConfig_of_ratio_ge (hRatio : Config.osThreshold ≤ lineRatio clk baud) :
    lineConfig clk baud =
      { d := lineDivisor clk baud, div := (lineDivisor clk baud).toNat / 2 ^ 8,
        mod := Config.modOS (lineDivisor clk baud), os := true } := if_pos hRatio

/-- The low-frequency mode (R194). -/
theorem lineConfig_of_ratio_lt (hRatio : lineRatio clk baud < Config.osThreshold) :
    lineConfig clk baud =
      { d := lineDivisor clk baud, div := (lineDivisor clk baud).toNat / 2 ^ 4,
        mod := Config.modLF ((lineDivisor clk baud).extractLsb' 0 4), os := false } :=
  if_neg (Nat.not_le.mpr hRatio)

/-- Both modes keep `D` (R191). -/
theorem lineConfig_d : (lineConfig clk baud).d = lineDivisor clk baud := by
  unfold lineConfig
  split <;> rfl

/-- The mode is chosen by the ratio alone (R191). -/
theorem lineConfig_os : (lineConfig clk baud).os = true ↔ Config.osThreshold ≤ lineRatio clk baud := by
  refine ⟨fun hOs => ?_, fun hRatio => congrArg LineConfig.os (lineConfig_of_ratio_ge hRatio)⟩
  by_contra hRatio
  rw [lineConfig_of_ratio_lt (Nat.not_le.mp hRatio)] at hOs
  nomatch hOs

theorem lineConfig_os_eq_false :
    (lineConfig clk baud).os = false ↔ lineRatio clk baud < Config.osThreshold := by
  rw [← Bool.not_eq_true, lineConfig_os, Nat.not_le]

end Line

/-- Settles O41, mode by mode: the ratio decides the mode, and is `D` in sixteenths. -/
theorem lineConfigArithmetic : Obligations.LineConfigArithmetic := by
  intro clk baud hClk _
  have hD := lineDivisor_toNat (baud := baud) hClk
  have hScaled := scaled_div_sixteen (clk := clk) (baud := baud)
  refine ⟨by rw [lineConfig_d, hD], lineConfig_os, fun hOs => ?_, fun hOs => ?_⟩
  · have hRatio := lineConfig_os_eq_false.mp hOs
    rw [lineConfig_of_ratio_lt hRatio, hD]
    exact ⟨rfl, hScaled, hScaled.trans_le (Nat.le_of_lt_succ hRatio), congrArg _ lineDivisor_lowNibble⟩
  · have hRatio := lineConfig_os.mp hOs
    have hDiv : 16 * clk / baud / 2 ^ 8 = lineRatio clk baud / 16 := by omega
    rw [lineConfig_of_ratio_ge hRatio, hD]
    refine ⟨rfl, hDiv, ?_, congrArg _ lineDivisor_eq_ofNat⟩
    calc 3 = Config.osThreshold / 16 := rfl
      _ ≤ lineRatio clk baud / 16 := Nat.div_le_div_right hRatio
      _ = 16 * clk / baud / 2 ^ 8 := hDiv.symm

/-- Settles O40: in each row the ratio gives the mode, and the mode its equation to evaluate. -/
theorem lineConfigWorkedValues : Obligations.LineConfigWorkedValues :=
  ⟨⟨rfl, lineConfig_of_ratio_ge (by decide)⟩, ⟨rfl, lineConfig_of_ratio_ge (by decide)⟩,
    ⟨rfl, lineConfig_of_ratio_ge (by decide)⟩, ⟨rfl, lineConfig_of_ratio_ge (by decide)⟩,
    ⟨rfl, lineConfig_of_ratio_lt (by decide)⟩, ⟨rfl, lineConfig_of_ratio_lt (by decide)⟩,
    ⟨rfl, lineConfig_of_ratio_lt (by decide)⟩⟩

end Sys2Proof.Machine

/-! PROOF. The statements of the family spec/60_exceptions.md. -/

namespace Sys2Proof.Machine

/-! ## The two handlers are apart (R236)

All that `RXISR` writes is on one side of the state and all that `TXISR` writes is on another. A handler neither
reads nor writes the other side, so its micro-step is the same under any other contents of it. -/

section Sides

/-- `s` with all that `RXISR` may write taken from `d` (R151). -/
def graftReceive (d s : State) : State :=
  { s with
    rx := d.rx
    periph := { s.periph with rxifg := d.periph.rxifg }
    rxh := d.rxh
    ghost := { s.ghost with rxLog := d.ghost.rxLog, rxDrop := d.ghost.rxDrop } }

/-- `s` with all that `TXISR` may write taken from `d` (R173, R174). -/
def graftTransmit (d s : State) : State :=
  { s with
    tx := d.tx
    txie := d.txie
    periph := { s.periph with txbuf := d.periph.txbuf, txifg := d.periph.txifg }
    txh := d.txh
    ghost := { s.ghost with txLog := d.ghost.txLog } }

variable (d : State) {s t : State}

@[simp] theorem graftReceive_txh : (graftReceive d s).txh = s.txh := rfl

@[simp] theorem graftTransmit_rxh : (graftTransmit d s).rxh = s.rxh := rfl

/-- The two sides have no field in common. -/
theorem graft_comm (a b : State) : graftReceive a (graftTransmit b s) = graftTransmit b (graftReceive a s) := rfl

theorem eq_graftReceive_of_rxisr (h : exec .rxisr s = .next t) : t = graftReceive t s := by
  obtain ⟨_, _, _, _, _, _, rfl, _⟩ := execRxisr_writes h
  rfl

theorem eq_graftTransmit_of_txisr (h : exec .txisr s = .next t) : t = graftTransmit t s := by
  obtain ⟨_, _, _, _, _, _, rfl⟩ := execTxisr_writes h
  rfl

/-- The start condition and the fullness of `rx` read the same under another transmit side. -/
theorem exec_rxisr_graftTransmit :
    exec .rxisr (graftTransmit d s) = mapNext (graftTransmit d) (exec .rxisr s) := by
  simp only [exec, execRxisr, graftTransmit_rxh]
  split
  case h_1 => exact congrArg _ (apply_ite (graftTransmit d) (s.rxEvent = true) (rxhGoto .x1 s) s).symm
  case h_3 => rw [apply_ite (mapNext _)]; rfl
  all_goals rfl

/-- The start condition and the emptiness of `tx` read the same under another receive side. -/
theorem exec_txisr_graftReceive :
    exec .txisr (graftReceive d s) = mapNext (graftReceive d) (exec .txisr s) := by
  simp only [exec, execTxisr, graftReceive_txh]
  split
  case h_1 => exact congrArg _ (apply_ite (graftReceive d) (s.txEvent = true) (txhGoto .y1 s) s).symm
  case h_2 => rw [apply_ite (mapNext _)]; rfl
  all_goals rfl

/-- `TXISR` is never refused (R220, R98). -/
theorem exec_txisr_answers (s : State) : ∃ t, exec .txisr s = .next t := by
  cases h : exec .txisr s with
  | next t => exact ⟨t, rfl⟩
  | fault r => exact r.casesOn
  | refused q =>
    obtain ⟨hi, _⟩ | ⟨_, hi, _⟩ | ⟨_, hi, _⟩ := exec_refused h <;> nomatch hi

end Sides

/-- Settles O13: from `s`, `RXISR` leads to `a` and `TXISR` to `b`; both orders end in `s` with the receive side of
`a` and the transmit side of `b`. -/
theorem handlerMicroStepsCommute : Obligations.HandlerMicroStepsCommute := by
  intro s
  obtain ⟨a, ha⟩ := exec_rxisr_answers s
  obtain ⟨b, hb⟩ := exec_txisr_answers s
  have haSide : a = graftReceive a s := eq_graftReceive_of_rxisr ha
  have hbSide : b = graftTransmit b s := eq_graftTransmit_of_txisr hb
  have hRxFirst : exec .txisr a = .next (graftReceive a b) := by
    rw [haSide, exec_txisr_graftReceive, hb, ← haSide, mapNext_next]
  have hTxFirst : exec .rxisr b = .next (graftTransmit b a) := by
    rw [hbSide, exec_rxisr_graftTransmit, ha, ← hbSide, mapNext_next]
  have hSame : graftReceive a b = graftTransmit b a := by
    calc graftReceive a b = graftReceive a (graftTransmit b s) := by rw [← hbSide]
      _ = graftTransmit b (graftReceive a s) := graft_comm a b
      _ = graftTransmit b a := by rw [← haSide]
  exact ⟨a, b, graftReceive a b, ha, hRxFirst, hb, hSame ▸ hTxFirst⟩

/-! ## The stall of `HOST` (R233) -/

theorem unlessPreempted_stalled {s : State} (hs : s.handlerActive = true) (r : Result) :
    unlessPreempted s r = .next s := if_pos hs

/-- Settles O9: every command asks for the stall before its micro-step, and so does the turn of `HOST`. -/
theorem hostStallsWhileHandlerActive : Obligations.HostStallsWhileHandlerActive := by
  constructor
  · intro i s hReserved hRx hTx hs
    cases i with
    | begin _ | end_ | available | peek | read | write _ | flush => exact unlessPreempted_stalled hs _
    | reserved7 => exact absurd rfl hReserved
    | rxisr => exact absurd rfl hRx
    | txisr => exact absurd rfl hTx
  · intro s sch hsch hs
    rw [step_of_schedule hsch]
    exact congrArg Selected.outcome (selectHost_stalled (s := { s with schedule := sch }) hs)

/-! ## The steps of `PERIPH` (R232) and the start of a handler (R231) -/

/-- Settles O11; `PE_TXE` leaves `TXIFG` at 1 on both branches of its guard. -/
theorem peripheralStepsSetPendingBits : Obligations.PeripheralStepsSetPendingBits := by
  constructor
  · intro s b sch hsch
    rw [step_of_schedule hsch]
    rfl
  · intro s sch hsch
    rw [step_of_schedule hsch]
    exact congrArg Host.Outcome.next (peTxe_eq _)

section Events

variable {s : State}

theorem rxEvent_of_pending (hp : s.rxh.phase = .idle) (hPending : s.periph.rxifg = true)
    (hEnabled : s.rxie = true) : s.rxEvent = true := by
  simp [State.rxEvent, hp, hPending, hEnabled]

theorem rxEvent_eq_false (h : s.periph.rxifg = false ∨ s.rxie = false) : s.rxEvent = false := by
  obtain hPending | hEnabled := h
  · simp [State.rxEvent, hPending]
  · simp [State.rxEvent, hEnabled]

theorem txEvent_eq_false (h : s.periph.txifg = false ∨ s.txie = false) : s.txEvent = false := by
  obtain hPending | hEnabled := h
  · simp [State.txEvent, hPending]
  · simp [State.txEvent, hEnabled]

end Events

/-- Settles O12, by the value of the start condition of each handler. -/
theorem handlerStartsIffEventPending : Obligations.HandlerStartsIffEventPending := by
  intro s
  refine ⟨fun hp hPending hEnabled => ?_, fun hp hOff => ?_, fun hp hPending hEnabled => ?_, fun hp hOff => ?_⟩
  · exact exec_rxisr_start s hp (rxEvent_of_pending hp hPending hEnabled)
  · exact exec_rxisr_no_start s hp (rxEvent_eq_false hOff)
  · exact exec_txisr_start s hp (txEvent_of_pending hp hPending hEnabled)
  · exact exec_txisr_no_start s hp (txEvent_eq_false hOff)

end Sys2Proof.Machine

namespace Sys2Proof.Machine

open Sys2Proof.Safety

/-! ## The end of a run (R272) -/

section RunOver

variable {s : State}

/-- The conditions of R272, one by one. -/
theorem runOver_iff : runOver s = true ↔
    s.program = [] ∧ s.host.phase = .idle ∧ s.handlerActive = false ∧ s.rxEvent = false ∧ s.txEvent = false := by
  simp [runOver, and_assoc]

/-- With both handlers idle and no event to start on, the turn of either takes no micro-step (R231). -/
theorem exec_decodeEvent_no_start (ev : EventBit) (hs : s.handlerActive = false) (hRx : s.rxEvent = false)
    (hTx : s.txEvent = false) : exec (decodeEvent ev) s = .next s := by
  obtain ⟨hRxIdle, hTxIdle⟩ := handlers_idle hs
  unfold decodeEvent
  split
  · exact exec_rxisr_no_start s hRxIdle hRx
  · exact exec_txisr_no_start s hTxIdle hTx

end RunOver

/-- Settles O52: `HOST` waits for a command word (R261), and neither handler has an event to start on. -/
theorem finishedRunIsQuiet : Obligations.FinishedRunIsQuiet := by
  intro s u sch hOver hsch hTurn
  obtain ⟨hProgram, hHost, hs, hRx, hTx⟩ := runOver_iff.mp hOver
  obtain rfl | ⟨ev, rfl⟩ := hTurn
  · exact idleHostWaitsForCommandWord s sch hsch hProgram hHost
  · rw [step_of_schedule hsch]
    exact exec_decodeEvent_no_start (s := { s with schedule := sch }) ev hs hRx hTx

end Sys2Proof.Machine

/-! PROOF. The statements of the family 'other': the round trip of the encoding (R91 to R93, R96), the invariant at
reset (R55), and where a packet is placed. -/

namespace Sys2Proof

/-! ## The encoding (R91 to R93, R96, R98) -/

/-- Settles O5, constructor by constructor. -/
theorem decodeOfEncodeIsIdentity : Obligations.DecodeOfEncodeIsIdentity := by
  intro i
  cases i with
  | begin baud => exact Laws.EncodeDecode.begin baud
  | end_ => exact Laws.EncodeDecode.end_
  | available => exact Laws.EncodeDecode.available
  | peek => exact Laws.EncodeDecode.peek
  | read => exact Laws.EncodeDecode.read
  | write byte => exact Laws.EncodeDecode.write byte
  | flush => exact Laws.EncodeDecode.flush
  | reserved7 => exact Laws.EncodeDecode.reserved7
  | rxisr => exact Laws.EncodeDecode.rxisr
  | txisr => exact Laws.EncodeDecode.txisr

/-- A mask on a command word acts on its two fields apart. -/
theorem commandWord_and (op op' : OpField) (arg arg' : Arg) :
    commandWord op arg &&& commandWord op' arg' = commandWord (op &&& op') (arg &&& arg') :=
  BitVec.and_append

/-- Only `arg[7:0]` is left of an operand that passes through the byte of `WRITE` (R93). -/
theorem argOfByte_byteOfArg (arg : Arg) : argOfByte (byteOfArg arg) = arg &&& 0xFF#32 := by
  apply BitVec.eq_of_toNat_eq
  simp [argOfByte, byteOfArg, Nat.and_two_pow_sub_one_eq_mod _ 8]
  omega

/-- The mask of `BEGIN`: no operand bit is ignored (R93). -/
theorem commandWord_and_operation_operand (op : OpField) (arg : Arg) :
    commandWord op arg &&& 0x7FFFFFFFF#35 = commandWord op arg :=
  BitVec.and_allOnes

/-- The mask of `WRITE`: `arg[31:8]` is ignored (R93). -/
theorem commandWord_and_operation_byte (op : OpField) (arg : Arg) :
    commandWord op arg &&& 0x7000000FF#35 = commandWord op (argOfByte (byteOfArg arg)) := by
  calc commandWord op arg &&& commandWord 7#3 0xFF#32
    _ = commandWord (op &&& BitVec.allOnes 3) (arg &&& 0xFF#32) := commandWord_and ..
    _ = commandWord op (argOfByte (byteOfArg arg)) := by rw [BitVec.and_allOnes, argOfByte_byteOfArg]

/-- The mask of an operation without operand: all of `arg` is ignored (R93). -/
theorem commandWord_and_operation (op : OpField) (arg : Arg) :
    commandWord op arg &&& 0x700000000#35 = commandWord op 0#32 := by
  calc commandWord op arg &&& commandWord 7#3 0#32
    _ = commandWord (op &&& BitVec.allOnes 3) (arg &&& 0#32) := commandWord_and ..
    _ = commandWord op 0#32 := by rw [BitVec.and_allOnes, BitVec.and_zero]

theorem opField_cases (op : OpField) :
    op = 0 ∨ op = 1 ∨ op = 2 ∨ op = 3 ∨ op = 4 ∨ op = 5 ∨ op = 6 ∨ op = 7 := by
  revert op
  decide

/-- Settles O6: each of the eight operation numbers fixes the mask, and the mask clears what the encoder sends as
zeros. -/
theorem encodeOfDecodeClearsIgnoredBits : Obligations.EncodeOfDecodeClearsIgnoredBits := by
  intro w
  obtain ⟨op, arg, rfl⟩ := operationNumberDecides.2 w
  obtain ⟨hBegin, hEnd, hAvailable, hPeek, hRead, hWrite, hFlush, hReserved⟩ := operationNumberDecides.1 arg
  obtain rfl | rfl | rfl | rfl | rfl | rfl | rfl | rfl := opField_cases op
  · rw [hBegin]; exact congrArg _ (commandWord_and_operation_operand 0 arg).symm
  · rw [hEnd]; exact congrArg _ (commandWord_and_operation 1 arg).symm
  · rw [hAvailable]; exact congrArg _ (commandWord_and_operation 2 arg).symm
  · rw [hPeek]; exact congrArg _ (commandWord_and_operation 3 arg).symm
  · rw [hRead]; exact congrArg _ (commandWord_and_operation 4 arg).symm
  · rw [hWrite]; exact congrArg _ (commandWord_and_operation_byte 5 arg).symm
  · rw [hFlush]; exact congrArg _ (commandWord_and_operation 6 arg).symm
  · rw [hReserved]; exact congrArg _ (commandWord_and_operation 7 arg).symm

theorem packetOfBits_command {w : Nat} (hw : w < 2 ^ 35) :
    packetOfBits 40 w = .ok (.command (BitVec.ofNat 35 w)) :=
  (if_neg (by decide)).trans (if_pos hw)

theorem packetOfBits_event {ev : Nat} (hev : ev < 2 ^ 1) :
    packetOfBits 8 ev = .ok (.event (BitVec.ofNat 1 ev)) :=
  (if_pos (by decide)).trans (if_pos hev)

/-- Settles O3, row by row of the table. -/
theorem writtenWordsDecode : Obligations.WrittenWordsDecode := by
  refine ⟨?_, ?_, ?_, ?_, ?_, ?_, ?_, ?_, ?_, ?_⟩ <;> decide

end Sys2Proof

namespace Sys2Proof.Machine

/-- Settles O2: it is the invariant of the first state of every run. -/
theorem resetSatisfiesInvariant : Obligations.ResetSatisfiesInvariant :=
  machineInv_reset

/-! ## Where a packet is placed (R91, R94, R96) -/

theorem withFetchWord_command (s : State) {w : Nat} (hw : w < 2 ^ 35) :
    s.withFetchWord 40 w = placeCommand (BitVec.ofNat 35 w) s := by
  simp [State.withFetchWord, packetOfBits_command hw, placePacket]

theorem withFetchWord_event (s : State) {ev : Nat} (hev : ev < 2 ^ 1) :
    s.withFetchWord 8 ev = placeEvent (BitVec.ofNat 1 ev) s := by
  simp [State.withFetchWord, packetOfBits_event hev, placePacket]

/-- Settles O8: the placed packet is what the next turn takes up (R237). A command word is run in the state that it
was placed in, and an event starts its handler, which is idle and enabled (R231). -/
theorem placedWordIsRunNext : Obligations.PlacedWordIsRunNext := by
  obtain ⟨hCommand, -, hEvent⟩ := stepRunsDecodedOperation
  refine ⟨fun s w hw => ?_, fun s => ?_, fun s => ?_⟩
  · rw [withFetchWord_command s hw]
    exact hCommand _ _ s.program s.schedule rfl rfl rfl rfl
  · rw [withFetchWord_event s (by decide), hEvent _ 0 s.schedule rfl]
    exact exec_rxisr_start _ rfl (rxEvent_of_pending rfl rfl rfl)
  · rw [withFetchWord_event s (by decide), hEvent _ 1 s.schedule rfl]
    exact exec_txisr_start _ rfl (txEvent_of_pending rfl rfl rfl)

end Sys2Proof.Machine
